-- ==== Sys2Proof/Word.lean ====
section
/-! DEFINITION. The two widths of the machine: 8-bit data and 16-bit addresses (00_scope.md R4, R5). -/

namespace Sys2Proof

/-- `u8`: a register, a flag byte, every bus transfer (R4, R5). -/
abbrev Byte := BitVec 8

/-- `u16`: the program counter and every bus address (R4, R5). -/
abbrev Addr := BitVec 16

end Sys2Proof
end

