-- ==== Sys2Proof/Config.lean ====
section
/-! DEFINITION. What the machine's rules take as given: the PPU's interface state (an argument of the PPU's
functions), the launch parameters' types, and the parameters the spec leaves open, as constants without a body. -/

namespace Sys2Proof

/-- The state behind the PPU register window (10_state.md R33, R34). `internal` codes everything else the PPU owns
(R32, R33 "opaque") as a natural number (log 5). -/
structure Ppu where
  /-- PPUCTRL latch; bit 7 is the NMI enable, bit 2 the increment direction (R33, R64) -/
  ctrl : Byte
  /-- PPUMASK latch (R33, R65) -/
  mask : Byte
  /-- PPUSTATUS; bit 7 is the vblank bit (R33, R66) -/
  status : Byte
  /-- PPUDATA read buffer (R33, R69) -/
  dataBuffer : Byte
  /-- PPUADDR two-write toggle: false = the next write is the high byte (R33, R68) -/
  addrLatch : Bool
  /-- "the PPU memory address" (R33) -/
  vramAddr : Addr
  /-- the NMI output flag (R33, R34) -/
  nmiPending : Bool
  /-- everything else the PPU owns, coded (R33) -/
  internal : Nat
  deriving DecidableEq, Repr

/-- `BRANCH_PAGE_REF` (00_scope.md R4; D5): whose page a branch target's page is compared with. -/
inductive BranchPageRef where
  | opcodePc
  | nextPc
  deriving DecidableEq, Repr

/-- What the host may call between two master ticks (70_reset_and_hazards.md R341, R348; 60_exceptions.md R303). -/
inductive HostCall where
  | irq
  | reset
  deriving DecidableEq, Repr

/-- What a call of the CPU's `step()` reports (40_execution_and_addressing.md R121). The spec names the first; it states
no report for an execute cycle (R122), so the second stands for any other answer (log 20). -/
inductive StepReport where
  /-- "instruction-not-yet-complete" -/
  | instructionNotYetComplete
  | otherReport
  deriving DecidableEq, Repr, Inhabited

/-- What an execute cycle of the CPU's `step()` reports: R122 of
40_execution_and_addressing.md does not state it. The
arguments are total_cycles, which every execute cycle advances, and PC, both before the call. Free (log 20). -/
opaque Config.executeReport : BitVec 64 → Addr → StepReport

/-- `ppu_init` (10_state.md R33, R37; D11): the PPU's own state at power-on. Free (log 5). -/
opaque Config.ppuInit : Nat

/-- Whether the next `PpuStep` from this PPU state is the one that enters vblank (60_exceptions.md R320 b, e): the
PPU's own timing, not in the spec. Free (log 5, log 6). -/
opaque Config.ppuEntersVblank : Ppu → Bool

/-- PPUSTATUS after a `PpuStep`, before R320 (c) sets the vblank bit in an entering step. Free (log 5, log 6). -/
opaque Config.ppuStatusAfter : Ppu → Byte

/-- `vram_addr` after a `PpuStep`: left to the parameter by R320 (d), D26. Free (log 5, log 6). -/
opaque Config.ppuVramAddrAfter : Ppu → Addr

/-- The PPU's own state after a `PpuStep` (R320). Free (log 5, log 6). -/
opaque Config.ppuInternalAfter : Ppu → Nat

/-- `PpuMemRead(a)` (20_memory.md R69; D36). Free (log 5). -/
opaque Config.ppuMemRead : Ppu → Addr → Byte

/-- `PpuMemWrite(a, v)` (20_memory.md R70; D36): the PPU's own state after the write. Free (log 5). -/
opaque Config.ppuMemWrite : Ppu → Addr → Byte → Nat

/-- `PpuRegWriteInternal(i, v)` for index 3, 4, 5 (20_memory.md R67; D14): the PPU's own state after the write.
Free (log 5). -/
opaque Config.ppuRegWriteInternal : Ppu → BitVec 3 → Byte → Nat

/-- `PpuWriteOnlyRead(i)` (20_memory.md R71; D12), "any value": the first argument numbers the read, so that no two
reads are bound to agree. Free (log 7). -/
opaque Config.ppuWriteOnlyRead : Nat → BitVec 3 → Byte

/-- `CartLowRead(addr)` (20_memory.md R56; D19), "any value": the first argument numbers the read. Free (log 7). -/
opaque Config.cartLowRead : Nat → Addr → Byte

end Sys2Proof
end

