-- ==== Sys2Proof/Syntax.lean ====
section
/-! DEFINITION. The instruction set as syntax: one constructor per instruction rule R160 to R282 of spec/, its
operand form an argument, so that every row of spec/opcode_table.json is one constructor at one form (log 19). Bytes
the machine never reads (BRK's padding byte, the immediate byte of the no-operations) are no part of an instruction
(log 12). -/

namespace Sys2Proof

/-- The operand forms of 30_encoding.md R96 that carry an operand. -/
inductive Mode where
  | acc | imm | zp | zpx | zpy | abs | abx | aby | ind | izx | izy
  deriving DecidableEq, Repr

/-- An operand: its form and the instruction's operand bytes, assembled as 30_encoding.md R95 says. -/
inductive Operand where
  /-- Accumulator, `A` (R126) -/
  | acc
  /-- Immediate, `#$nn` (R127) -/
  | imm (v : Byte)
  /-- Zero Page, `$nn` (R128) -/
  | zp (a : Byte)
  /-- Zero Page,X, `$nn,X` (R129) -/
  | zpx (a : Byte)
  /-- Zero Page,Y, `$nn,Y` (R130) -/
  | zpy (a : Byte)
  /-- Absolute, `$nnnn` (R132) -/
  | abs (a : Addr)
  /-- Absolute,X, `$nnnn,X` (R133) -/
  | abx (a : Addr)
  /-- Absolute,Y, `$nnnn,Y` (R134) -/
  | aby (a : Addr)
  /-- Indirect, `($nnnn)` (R135) -/
  | ind (a : Addr)
  /-- (Indirect,X), `($nn,X)` (R136) -/
  | izx (a : Byte)
  /-- (Indirect),Y, `($nn),Y` (R137) -/
  | izy (a : Byte)
  deriving DecidableEq, Repr

/-- The form of an operand (R96). -/
def Operand.mode : Operand → Mode
  | .acc => .acc
  | .imm _ => .imm
  | .zp _ => .zp
  | .zpx _ => .zpx
  | .zpy _ => .zpy
  | .abs _ => .abs
  | .abx _ => .abx
  | .aby _ => .aby
  | .ind _ => .ind
  | .izx _ => .izx
  | .izy _ => .izy

/-- The 27 undocumented NOP bytes by form (30_encoding.md R101; 45_undocumented.md R274); `k` is the place of the
byte in R274's list for the form. The immediate byte is never read. -/
inductive NopForm where
  /-- `1A 3A 5A 7A DA FA` -/
  | imp (k : Fin 6)
  /-- `80 82 89 C2 E2` -/
  | imm (k : Fin 5)
  /-- `04 44 64` -/
  | zp (k : Fin 3) (a : Byte)
  /-- `14 34 54 74 D4 F4` -/
  | zpx (k : Fin 6) (a : Byte)
  /-- `0C` -/
  | abs (a : Addr)
  /-- `1C 3C 5C 7C DC FC` -/
  | abx (k : Fin 6) (a : Addr)
  deriving DecidableEq, Repr

/-- The instructions. Branches carry the offset byte (`rel8`, R95). -/
inductive Instr where
  -- 41_load_store_transfer_stack.md
  /-- R160 -/
  | lda (o : Operand)
  /-- R161 -/
  | ldx (o : Operand)
  /-- R162 -/
  | ldy (o : Operand)
  /-- R163 -/
  | sta (o : Operand)
  /-- R164 -/
  | stx (o : Operand)
  /-- R165 -/
  | sty (o : Operand)
  /-- R166 -/
  | tax
  /-- R167 -/
  | tay
  /-- R168 -/
  | txa
  /-- R169 -/
  | tya
  /-- R170 -/
  | tsx
  /-- R171 -/
  | txs
  /-- R172 -/
  | pha
  /-- R173 -/
  | php
  /-- R174 -/
  | pla
  /-- R175 -/
  | plp
  -- 42_logic_shift.md
  /-- R180 -/
  | and (o : Operand)
  /-- R181 -/
  | ora (o : Operand)
  /-- R182 -/
  | eor (o : Operand)
  /-- R183 -/
  | asl (o : Operand)
  /-- R184 -/
  | lsr (o : Operand)
  /-- R185 -/
  | rol (o : Operand)
  /-- R186 -/
  | ror (o : Operand)
  -- 43_arith_compare_incdec.md
  /-- R200 -/
  | adc (o : Operand)
  /-- R201 -/
  | sbc (o : Operand)
  /-- R202 -/
  | cmp (o : Operand)
  /-- R203 -/
  | cpx (o : Operand)
  /-- R204 -/
  | cpy (o : Operand)
  /-- R205 -/
  | inc (o : Operand)
  /-- R206 -/
  | dec (o : Operand)
  /-- R207 -/
  | inx
  /-- R208 -/
  | dex
  /-- R209 -/
  | iny
  /-- R210 -/
  | dey
  -- 44_branch_jump_bit_flag_brk_rti_nop.md
  /-- R221 -/
  | bcc (off : Byte)
  /-- R222 -/
  | bcs (off : Byte)
  /-- R223 -/
  | beq (off : Byte)
  /-- R224 -/
  | bne (off : Byte)
  /-- R225 -/
  | bmi (off : Byte)
  /-- R226 -/
  | bpl (off : Byte)
  /-- R227 -/
  | bvc (off : Byte)
  /-- R228 -/
  | bvs (off : Byte)
  /-- R229 -/
  | jmp (o : Operand)
  /-- R230 -/
  | jsr (target : Addr)
  /-- R231 -/
  | rts
  /-- R232 -/
  | bit (o : Operand)
  /-- R233 -/
  | clc
  /-- R234 -/
  | sec
  /-- R235 -/
  | cli
  /-- R236 -/
  | sei
  /-- R237 -/
  | cld
  /-- R238 -/
  | sed
  /-- R239 -/
  | clv
  /-- R240 -/
  | brk
  /-- R241 -/
  | rti
  /-- R242 -/
  | nop
  -- 45_undocumented.md, stable
  /-- R261 -/
  | slo (o : Operand)
  /-- R262 -/
  | rla (o : Operand)
  /-- R263 -/
  | sre (o : Operand)
  /-- R264 -/
  | rra (o : Operand)
  /-- R265 -/
  | sax (o : Operand)
  /-- R266 -/
  | lax (o : Operand)
  /-- R267 -/
  | dcp (o : Operand)
  /-- R268 -/
  | isc (o : Operand)
  /-- R269: `0B` (k = 0) and `2B` (k = 1) -/
  | anc (k : Fin 2) (v : Byte)
  /-- R270 -/
  | alr (v : Byte)
  /-- R271 -/
  | arr (v : Byte)
  /-- R272 -/
  | axs (v : Byte)
  /-- R273: Absolute,Y -/
  | las (a : Addr)
  /-- R274 -/
  | nopUndoc (f : NopForm)
  /-- R275: `EB`, immediate -/
  | sbcUndoc (v : Byte)
  -- 45_undocumented.md, unstable
  /-- R276: immediate, the byte never read -/
  | xaa
  /-- R277 -/
  | ahx (o : Operand)
  /-- R278: Absolute,Y -/
  | shx (a : Addr)
  /-- R279: Absolute,X -/
  | shy (a : Addr)
  /-- R280: Absolute,Y -/
  | tas (a : Addr)
  /-- R281: immediate, the byte never read -/
  | lxa
  /-- R282: `02 12 22 32 42 52 62 72 92 B2 D2 F2`, `k` the place in this list -/
  | jam (k : Fin 12)
  deriving DecidableEq, Repr

end Sys2Proof
end

