-- ==== Sys2Proof/WellFormed.lean ====
section
/-! DEFINITION. Which operand forms each instruction has (30_encoding.md R98, R100, and the "Encodings" of each
instruction's rule). An instruction outside this check is no row of the table: it has no encoding. -/

namespace Sys2Proof

/-- The modes of LDA, AND, ORA, EOR, ADC, SBC, CMP (R160, R180 to R182, R200 to R202). -/
def readModes : List Mode := [.imm, .zp, .zpx, .abs, .abx, .aby, .izx, .izy]

/-- The modes of STA (R163): no immediate form. -/
def storeModes : List Mode := [.zp, .zpx, .abs, .abx, .aby, .izx, .izy]

/-- The modes of ASL, LSR, ROL, ROR (R183 to R186). -/
def shiftModes : List Mode := [.acc, .zp, .zpx, .abs, .abx]

/-- The modes of INC and DEC (R205, R206). -/
def stepModes : List Mode := [.zp, .zpx, .abs, .abx]

/-- The modes of SLO, RLA, SRE, RRA, DCP, ISC (R261 to R264, R267, R268). -/
def combinedModes : List Mode := [.zp, .zpx, .abs, .abx, .aby, .izx, .izy]

/-- The operand forms the opcode table gives the instruction; `none` for an instruction without a choice of form. -/
def Instr.forms : Instr → Option (Operand × List Mode)
  | .lda o | .and o | .ora o | .eor o | .adc o | .sbc o | .cmp o => some (o, readModes)
  | .ldx o => some (o, [.imm, .zp, .zpy, .abs, .aby])
  | .ldy o => some (o, [.imm, .zp, .zpx, .abs, .abx])
  | .sta o => some (o, storeModes)
  | .stx o => some (o, [.zp, .zpy, .abs])
  | .sty o => some (o, [.zp, .zpx, .abs])
  | .asl o | .lsr o | .rol o | .ror o => some (o, shiftModes)
  | .cpx o | .cpy o => some (o, [.imm, .zp, .abs])
  | .inc o | .dec o => some (o, stepModes)
  | .jmp o => some (o, [.abs, .ind])
  | .bit o => some (o, [.zp, .abs])
  | .slo o | .rla o | .sre o | .rra o | .dcp o | .isc o => some (o, combinedModes)
  | .sax o => some (o, [.zp, .zpy, .abs, .izx])
  | .lax o => some (o, [.zp, .zpy, .abs, .aby, .izx, .izy])
  | .ahx o => some (o, [.aby, .izy])
  | .tax | .tay | .txa | .tya | .tsx | .txs | .pha | .php | .pla | .plp => none
  | .inx | .dex | .iny | .dey => none
  | .bcc _ | .bcs _ | .beq _ | .bne _ | .bmi _ | .bpl _ | .bvc _ | .bvs _ => none
  | .jsr _ | .rts | .clc | .sec | .cli | .sei | .cld | .sed | .clv | .brk | .rti | .nop => none
  | .anc _ _ | .alr _ | .arr _ | .axs _ | .las _ | .nopUndoc _ | .sbcUndoc _ => none
  | .xaa | .shx _ | .shy _ | .tas _ | .lxa | .jam _ => none

/-- The instruction is a row of the opcode table: its operand form is one the table gives it. -/
def Instr.wf (i : Instr) : Bool :=
  match i.forms with
  | none => true
  | some (o, ms) => ms.contains o.mode

end Sys2Proof
end

