-- ==== Sys2Proof/Decode.lean ====
section
/-! DEFINITION. The decoder, from the opcode map of 30_encoding.md (R90 to R99), total on any bytes; then the
encoder, from the per-mnemonic "Encodings" lists of the instruction rules (and R100, R101). -/

namespace Sys2Proof

/-! ### Byte order and sign (R5, R60, R7) -/

/-- `{hi, lo}` (R5). -/
def word (hi lo : Byte) : Addr := hi ++ lo

/-- `w[15:8]` (R5). -/
def hiByte (w : Addr) : Byte := w.extractLsb' 8 8

/-- `w[7:0]` (R5). -/
def loByte (w : Addr) : Byte := w.extractLsb' 0 8

/-- `sext_16(b)` (R7). -/
def sext (b : Byte) : Addr := b.signExtend 16

/-! ### The opcode map -/

/-- One entry of the opcode map: how many operand bytes the machine reads after the opcode, and the instruction it
builds from the low (or only) and the high operand byte (R91 to R95). -/
structure Row where
  reads : Nat
  build : Byte → Byte → Instr

/-- Nothing is read after the opcode: formats F1, and the rows whose operand byte is never read (R240, R274,
R276, R281; log 12). -/
def Row.imp (i : Instr) : Row := ⟨0, fun _ _ => i⟩

/-- Format F2: one operand byte (R92). -/
def Row.b (f : Byte → Instr) : Row := ⟨1, fun lo _ => f lo⟩

/-- Format F3: two operand bytes, low first (R93, R60). -/
def Row.w (f : Addr → Instr) : Row := ⟨2, fun lo hi => f (word hi lo)⟩

def Row.acc (f : Operand → Instr) : Row := .imp (f .acc)
def Row.imm (f : Operand → Instr) : Row := .b fun v => f (.imm v)
def Row.zp (f : Operand → Instr) : Row := .b fun a => f (.zp a)
def Row.zpx (f : Operand → Instr) : Row := .b fun a => f (.zpx a)
def Row.zpy (f : Operand → Instr) : Row := .b fun a => f (.zpy a)
def Row.izx (f : Operand → Instr) : Row := .b fun a => f (.izx a)
def Row.izy (f : Operand → Instr) : Row := .b fun a => f (.izy a)
def Row.abs (f : Operand → Instr) : Row := .w fun a => f (.abs a)
def Row.abx (f : Operand → Instr) : Row := .w fun a => f (.abx a)
def Row.aby (f : Operand → Instr) : Row := .w fun a => f (.aby a)
def Row.ind (f : Operand → Instr) : Row := .w fun a => f (.ind a)

/-- Opcode bytes `00` to `0F` (R99, row `0x`). -/
def rows0x : List Row :=
  [.imp .brk, .izx .ora, .imp (.jam 0), .izx .slo,
   (.b fun a => .nopUndoc (.zp 0 a)), .zp .ora, .zp .asl, .zp .slo,
   .imp .php, .imm .ora, .acc .asl, .b (.anc 0),
   (.w fun a => .nopUndoc (.abs a)), .abs .ora, .abs .asl, .abs .slo]

/-- Opcode bytes `10` to `1F` (R99, row `1x`). -/
def rows1x : List Row :=
  [.b .bpl, .izy .ora, .imp (.jam 1), .izy .slo,
   (.b fun a => .nopUndoc (.zpx 0 a)), .zpx .ora, .zpx .asl, .zpx .slo,
   .imp .clc, .aby .ora, .imp (.nopUndoc (.imp 0)), .aby .slo,
   (.w fun a => .nopUndoc (.abx 0 a)), .abx .ora, .abx .asl, .abx .slo]

/-- Opcode bytes `20` to `2F` (R99, row `2x`). -/
def rows2x : List Row :=
  [.w .jsr, .izx .and, .imp (.jam 2), .izx .rla,
   .zp .bit, .zp .and, .zp .rol, .zp .rla,
   .imp .plp, .imm .and, .acc .rol, .b (.anc 1),
   .abs .bit, .abs .and, .abs .rol, .abs .rla]

/-- Opcode bytes `30` to `3F` (R99, row `3x`). -/
def rows3x : List Row :=
  [.b .bmi, .izy .and, .imp (.jam 3), .izy .rla,
   (.b fun a => .nopUndoc (.zpx 1 a)), .zpx .and, .zpx .rol, .zpx .rla,
   .imp .sec, .aby .and, .imp (.nopUndoc (.imp 1)), .aby .rla,
   (.w fun a => .nopUndoc (.abx 1 a)), .abx .and, .abx .rol, .abx .rla]

/-- Opcode bytes `40` to `4F` (R99, row `4x`). -/
def rows4x : List Row :=
  [.imp .rti, .izx .eor, .imp (.jam 4), .izx .sre,
   (.b fun a => .nopUndoc (.zp 1 a)), .zp .eor, .zp .lsr, .zp .sre,
   .imp .pha, .imm .eor, .acc .lsr, .b .alr,
   .abs .jmp, .abs .eor, .abs .lsr, .abs .sre]

/-- Opcode bytes `50` to `5F` (R99, row `5x`). -/
def rows5x : List Row :=
  [.b .bvc, .izy .eor, .imp (.jam 5), .izy .sre,
   (.b fun a => .nopUndoc (.zpx 2 a)), .zpx .eor, .zpx .lsr, .zpx .sre,
   .imp .cli, .aby .eor, .imp (.nopUndoc (.imp 2)), .aby .sre,
   (.w fun a => .nopUndoc (.abx 2 a)), .abx .eor, .abx .lsr, .abx .sre]

/-- Opcode bytes `60` to `6F` (R99, row `6x`). -/
def rows6x : List Row :=
  [.imp .rts, .izx .adc, .imp (.jam 6), .izx .rra,
   (.b fun a => .nopUndoc (.zp 2 a)), .zp .adc, .zp .ror, .zp .rra,
   .imp .pla, .imm .adc, .acc .ror, .b .arr,
   .ind .jmp, .abs .adc, .abs .ror, .abs .rra]

/-- Opcode bytes `70` to `7F` (R99, row `7x`). -/
def rows7x : List Row :=
  [.b .bvs, .izy .adc, .imp (.jam 7), .izy .rra,
   (.b fun a => .nopUndoc (.zpx 3 a)), .zpx .adc, .zpx .ror, .zpx .rra,
   .imp .sei, .aby .adc, .imp (.nopUndoc (.imp 3)), .aby .rra,
   (.w fun a => .nopUndoc (.abx 3 a)), .abx .adc, .abx .ror, .abx .rra]

/-- Opcode bytes `80` to `8F` (R99, row `8x`). -/
def rows8x : List Row :=
  [.imp (.nopUndoc (.imm 0)), .izx .sta, .imp (.nopUndoc (.imm 1)), .izx .sax,
   .zp .sty, .zp .sta, .zp .stx, .zp .sax,
   .imp .dey, .imp (.nopUndoc (.imm 2)), .imp .txa, .imp .xaa,
   .abs .sty, .abs .sta, .abs .stx, .abs .sax]

/-- Opcode bytes `90` to `9F` (R99, row `9x`). -/
def rows9x : List Row :=
  [.b .bcc, .izy .sta, .imp (.jam 8), .izy .ahx,
   .zpx .sty, .zpx .sta, .zpy .stx, .zpy .sax,
   .imp .tya, .aby .sta, .imp .txs, .w .tas,
   .w .shy, .abx .sta, .w .shx, .aby .ahx]

/-- Opcode bytes `A0` to `AF` (R99, row `Ax`). -/
def rowsAx : List Row :=
  [.imm .ldy, .izx .lda, .imm .ldx, .izx .lax,
   .zp .ldy, .zp .lda, .zp .ldx, .zp .lax,
   .imp .tay, .imm .lda, .imp .tax, .imp .lxa,
   .abs .ldy, .abs .lda, .abs .ldx, .abs .lax]

/-- Opcode bytes `B0` to `BF` (R99, row `Bx`). -/
def rowsBx : List Row :=
  [.b .bcs, .izy .lda, .imp (.jam 9), .izy .lax,
   .zpx .ldy, .zpx .lda, .zpy .ldx, .zpy .lax,
   .imp .clv, .aby .lda, .imp .tsx, .w .las,
   .abx .ldy, .abx .lda, .aby .ldx, .aby .lax]

/-- Opcode bytes `C0` to `CF` (R99, row `Cx`). -/
def rowsCx : List Row :=
  [.imm .cpy, .izx .cmp, .imp (.nopUndoc (.imm 3)), .izx .dcp,
   .zp .cpy, .zp .cmp, .zp .dec, .zp .dcp,
   .imp .iny, .imm .cmp, .imp .dex, .b .axs,
   .abs .cpy, .abs .cmp, .abs .dec, .abs .dcp]

/-- Opcode bytes `D0` to `DF` (R99, row `Dx`). -/
def rowsDx : List Row :=
  [.b .bne, .izy .cmp, .imp (.jam 10), .izy .dcp,
   (.b fun a => .nopUndoc (.zpx 4 a)), .zpx .cmp, .zpx .dec, .zpx .dcp,
   .imp .cld, .aby .cmp, .imp (.nopUndoc (.imp 4)), .aby .dcp,
   (.w fun a => .nopUndoc (.abx 4 a)), .abx .cmp, .abx .dec, .abx .dcp]

/-- Opcode bytes `E0` to `EF` (R99, row `Ex`). -/
def rowsEx : List Row :=
  [.imm .cpx, .izx .sbc, .imp (.nopUndoc (.imm 4)), .izx .isc,
   .zp .cpx, .zp .sbc, .zp .inc, .zp .isc,
   .imp .inx, .imm .sbc, .imp .nop, .b .sbcUndoc,
   .abs .cpx, .abs .sbc, .abs .inc, .abs .isc]

/-- Opcode bytes `F0` to `FF` (R99, row `Fx`). -/
def rowsFx : List Row :=
  [.b .beq, .izy .sbc, .imp (.jam 11), .izy .isc,
   (.b fun a => .nopUndoc (.zpx 5 a)), .zpx .sbc, .zpx .inc, .zpx .isc,
   .imp .sed, .aby .sbc, .imp (.nopUndoc (.imp 5)), .aby .isc,
   (.w fun a => .nopUndoc (.abx 5 a)), .abx .sbc, .abx .inc, .abx .isc]

/-- The opcode map in opcode order, all 256 entries (R97 to R99). -/
def opcodeRows : List Row :=
  rows0x ++ rows1x ++ rows2x ++ rows3x ++ rows4x ++ rows5x ++ rows6x ++ rows7x ++
  rows8x ++ rows9x ++ rowsAx ++ rowsBx ++ rowsCx ++ rowsDx ++ rowsEx ++ rowsFx

/-- `DESCRIPTOR` lookup (R94): total, since the map has an entry for each of the 256 bytes. -/
def row (op : Byte) : Row := opcodeRows.getD op.toNat (.imp .nop)

/-- The instruction of an opcode byte and its operand bytes; an operand byte the row does not read is ignored. -/
def assemble (op lo hi : Byte) : Instr := (row op).build lo hi

/-- Why a byte sequence is no instruction: it is too short. No opcode byte is illegal (R101). -/
inductive DecodeReject where
  /-- there is no opcode byte -/
  | noOpcode
  /-- an operand byte the machine would read is missing -/
  | operandMissing
  deriving DecidableEq, Repr

/-- The decoder: the instruction at the front of a byte sequence in increasing address order (R60, R90). -/
def decode : List Byte → Except DecodeReject Instr
  | [] => .error .noOpcode
  | op :: operands =>
    match (row op).reads, operands with
    | 0, _ => .ok (assemble op 0 0)
    | 1, lo :: _ => .ok (assemble op lo 0)
    | 2, lo :: hi :: _ => .ok (assemble op lo hi)
    | _, _ => .error .operandMissing

/-- The decoder on a table word: bit 0 is the least significant bit of the first byte, and every bit above `nbits`
is 0. -/
def decodeTableWord (nbits w : Nat) : Option Instr :=
  let v := w % 2 ^ nbits
  (decode [BitVec.ofNat 8 v, BitVec.ofNat 8 (v >>> 8), BitVec.ofNat 8 (v >>> 16)]).toOption

/-! ### The encoder -/

/-- The opcode bytes of the eight-form read instructions, in the order imm zp zpx abs abx aby izx izy. -/
def readOpcode (imm zp zpx abs abx aby izx izy : Byte) : Operand → Option Byte
  | .imm _ => some imm
  | .zp _ => some zp
  | .zpx _ => some zpx
  | .abs _ => some abs
  | .abx _ => some abx
  | .aby _ => some aby
  | .izx _ => some izx
  | .izy _ => some izy
  | .acc | .zpy _ | .ind _ => none

/-- The opcode bytes of the shifts, in the order acc zp zpx abs abx. -/
def shiftOpcode (acc zp zpx abs abx : Byte) : Operand → Option Byte
  | .acc => some acc
  | .zp _ => some zp
  | .zpx _ => some zpx
  | .abs _ => some abs
  | .abx _ => some abx
  | .imm _ | .zpy _ | .aby _ | .ind _ | .izx _ | .izy _ => none

/-- The opcode bytes of INC and DEC, in the order zp zpx abs abx. -/
def stepOpcode (zp zpx abs abx : Byte) : Operand → Option Byte
  | .zp _ => some zp
  | .zpx _ => some zpx
  | .abs _ => some abs
  | .abx _ => some abx
  | .acc | .imm _ | .zpy _ | .aby _ | .ind _ | .izx _ | .izy _ => none

/-- The opcode bytes of the combined instructions, in the order of R261: zp zpx abs abx aby izx izy. -/
def combinedOpcode (zp zpx abs abx aby izx izy : Byte) : Operand → Option Byte
  | .zp _ => some zp
  | .zpx _ => some zpx
  | .abs _ => some abs
  | .abx _ => some abx
  | .aby _ => some aby
  | .izx _ => some izx
  | .izy _ => some izy
  | .acc | .imm _ | .zpy _ | .ind _ => none

/-- The opcode bytes of CPX and CPY, in the order imm zp abs. -/
def compareOpcode (imm zp abs : Byte) : Operand → Option Byte
  | .imm _ => some imm
  | .zp _ => some zp
  | .abs _ => some abs
  | .acc | .zpx _ | .zpy _ | .abx _ | .aby _ | .ind _ | .izx _ | .izy _ => none

/-- LDX (R161). -/
def ldxOpcode : Operand → Option Byte
  | .imm _ => some 0xA2
  | .zp _ => some 0xA6
  | .zpy _ => some 0xB6
  | .abs _ => some 0xAE
  | .aby _ => some 0xBE
  | .acc | .zpx _ | .abx _ | .ind _ | .izx _ | .izy _ => none

/-- LDY (R162). -/
def ldyOpcode : Operand → Option Byte
  | .imm _ => some 0xA0
  | .zp _ => some 0xA4
  | .zpx _ => some 0xB4
  | .abs _ => some 0xAC
  | .abx _ => some 0xBC
  | .acc | .zpy _ | .aby _ | .ind _ | .izx _ | .izy _ => none

/-- STX (R164). -/
def stxOpcode : Operand → Option Byte
  | .zp _ => some 0x86
  | .zpy _ => some 0x96
  | .abs _ => some 0x8E
  | .acc | .imm _ | .zpx _ | .abx _ | .aby _ | .ind _ | .izx _ | .izy _ => none

/-- STY (R165). -/
def styOpcode : Operand → Option Byte
  | .zp _ => some 0x84
  | .zpx _ => some 0x94
  | .abs _ => some 0x8C
  | .acc | .imm _ | .zpy _ | .abx _ | .aby _ | .ind _ | .izx _ | .izy _ => none

/-- JMP (R229). -/
def jmpOpcode : Operand → Option Byte
  | .abs _ => some 0x4C
  | .ind _ => some 0x6C
  | .acc | .imm _ | .zp _ | .zpx _ | .zpy _ | .abx _ | .aby _ | .izx _ | .izy _ => none

/-- BIT (R232). -/
def bitOpcode : Operand → Option Byte
  | .zp _ => some 0x24
  | .abs _ => some 0x2C
  | .acc | .imm _ | .zpx _ | .zpy _ | .abx _ | .aby _ | .ind _ | .izx _ | .izy _ => none

/-- SAX (R265). -/
def saxOpcode : Operand → Option Byte
  | .zp _ => some 0x87
  | .zpy _ => some 0x97
  | .abs _ => some 0x8F
  | .izx _ => some 0x83
  | .acc | .imm _ | .zpx _ | .abx _ | .aby _ | .ind _ | .izy _ => none

/-- LAX (R266). -/
def laxOpcode : Operand → Option Byte
  | .zp _ => some 0xA7
  | .zpy _ => some 0xB7
  | .abs _ => some 0xAF
  | .aby _ => some 0xBF
  | .izx _ => some 0xA3
  | .izy _ => some 0xB3
  | .acc | .imm _ | .zpx _ | .abx _ | .ind _ => none

/-- AHX (R277). -/
def ahxOpcode : Operand → Option Byte
  | .izy _ => some 0x93
  | .aby _ => some 0x9F
  | .acc | .imm _ | .zp _ | .zpx _ | .zpy _ | .abs _ | .abx _ | .ind _ | .izx _ => none

/-- The undocumented NOPs (R274). -/
def nopOpcode : NopForm → Byte
  | .imp k => [0x1A, 0x3A, 0x5A, 0x7A, 0xDA, 0xFA].getD k 0x1A
  | .imm k => [0x80, 0x82, 0x89, 0xC2, 0xE2].getD k 0x80
  | .zp k _ => [0x04, 0x44, 0x64].getD k 0x04
  | .zpx k _ => [0x14, 0x34, 0x54, 0x74, 0xD4, 0xF4].getD k 0x14
  | .abs _ => 0x0C
  | .abx k _ => [0x1C, 0x3C, 0x5C, 0x7C, 0xDC, 0xFC].getD k 0x1C

/-- JAM (R282). -/
def jamOpcode (k : Fin 12) : Byte :=
  [0x02, 0x12, 0x22, 0x32, 0x42, 0x52, 0x62, 0x72, 0x92, 0xB2, 0xD2, 0xF2].getD k 0x02

/-- The opcode byte of an instruction; none for an operand form the table does not give it. -/
def opcode : Instr → Option Byte
  | .lda o => readOpcode 0xA9 0xA5 0xB5 0xAD 0xBD 0xB9 0xA1 0xB1 o
  | .ldx o => ldxOpcode o
  | .ldy o => ldyOpcode o
  | .sta o => combinedOpcode 0x85 0x95 0x8D 0x9D 0x99 0x81 0x91 o
  | .stx o => stxOpcode o
  | .sty o => styOpcode o
  | .tax => some 0xAA
  | .tay => some 0xA8
  | .txa => some 0x8A
  | .tya => some 0x98
  | .tsx => some 0xBA
  | .txs => some 0x9A
  | .pha => some 0x48
  | .php => some 0x08
  | .pla => some 0x68
  | .plp => some 0x28
  | .and o => readOpcode 0x29 0x25 0x35 0x2D 0x3D 0x39 0x21 0x31 o
  | .ora o => readOpcode 0x09 0x05 0x15 0x0D 0x1D 0x19 0x01 0x11 o
  | .eor o => readOpcode 0x49 0x45 0x55 0x4D 0x5D 0x59 0x41 0x51 o
  | .asl o => shiftOpcode 0x0A 0x06 0x16 0x0E 0x1E o
  | .lsr o => shiftOpcode 0x4A 0x46 0x56 0x4E 0x5E o
  | .rol o => shiftOpcode 0x2A 0x26 0x36 0x2E 0x3E o
  | .ror o => shiftOpcode 0x6A 0x66 0x76 0x6E 0x7E o
  | .adc o => readOpcode 0x69 0x65 0x75 0x6D 0x7D 0x79 0x61 0x71 o
  | .sbc o => readOpcode 0xE9 0xE5 0xF5 0xED 0xFD 0xF9 0xE1 0xF1 o
  | .cmp o => readOpcode 0xC9 0xC5 0xD5 0xCD 0xDD 0xD9 0xC1 0xD1 o
  | .cpx o => compareOpcode 0xE0 0xE4 0xEC o
  | .cpy o => compareOpcode 0xC0 0xC4 0xCC o
  | .inc o => stepOpcode 0xE6 0xF6 0xEE 0xFE o
  | .dec o => stepOpcode 0xC6 0xD6 0xCE 0xDE o
  | .inx => some 0xE8
  | .dex => some 0xCA
  | .iny => some 0xC8
  | .dey => some 0x88
  | .bcc _ => some 0x90
  | .bcs _ => some 0xB0
  | .beq _ => some 0xF0
  | .bne _ => some 0xD0
  | .bmi _ => some 0x30
  | .bpl _ => some 0x10
  | .bvc _ => some 0x50
  | .bvs _ => some 0x70
  | .jmp o => jmpOpcode o
  | .jsr _ => some 0x20
  | .rts => some 0x60
  | .bit o => bitOpcode o
  | .clc => some 0x18
  | .sec => some 0x38
  | .cli => some 0x58
  | .sei => some 0x78
  | .cld => some 0xD8
  | .sed => some 0xF8
  | .clv => some 0xB8
  | .brk => some 0x00
  | .rti => some 0x40
  | .nop => some 0xEA
  | .slo o => combinedOpcode 0x07 0x17 0x0F 0x1F 0x1B 0x03 0x13 o
  | .rla o => combinedOpcode 0x27 0x37 0x2F 0x3F 0x3B 0x23 0x33 o
  | .sre o => combinedOpcode 0x47 0x57 0x4F 0x5F 0x5B 0x43 0x53 o
  | .rra o => combinedOpcode 0x67 0x77 0x6F 0x7F 0x7B 0x63 0x73 o
  | .sax o => saxOpcode o
  | .lax o => laxOpcode o
  | .dcp o => combinedOpcode 0xC7 0xD7 0xCF 0xDF 0xDB 0xC3 0xD3 o
  | .isc o => combinedOpcode 0xE7 0xF7 0xEF 0xFF 0xFB 0xE3 0xF3 o
  | .anc k _ => some ([0x0B, 0x2B].getD k 0x0B)
  | .alr _ => some 0x4B
  | .arr _ => some 0x6B
  | .axs _ => some 0xCB
  | .las _ => some 0xBB
  | .nopUndoc f => some (nopOpcode f)
  | .sbcUndoc _ => some 0xEB
  | .xaa => some 0x8B
  | .ahx o => ahxOpcode o
  | .shx _ => some 0x9E
  | .shy _ => some 0x9C
  | .tas _ => some 0x9B
  | .lxa => some 0xAB
  | .jam k => some (jamOpcode k)

/-- The operand bytes of an operand, low byte first (R92, R93, R60). -/
def Operand.bytes : Operand → List Byte
  | .acc => []
  | .imm v => [v]
  | .zp a | .zpx a | .zpy a | .izx a | .izy a => [a]
  | .abs a | .abx a | .aby a | .ind a => [loByte a, hiByte a]

/-- The bytes after the opcode. A byte the machine never reads is encoded as 0 (log 12). -/
def operandBytes : Instr → List Byte
  | .lda o | .ldx o | .ldy o | .sta o | .stx o | .sty o => o.bytes
  | .and o | .ora o | .eor o | .asl o | .lsr o | .rol o | .ror o => o.bytes
  | .adc o | .sbc o | .cmp o | .cpx o | .cpy o | .inc o | .dec o | .jmp o | .bit o => o.bytes
  | .slo o | .rla o | .sre o | .rra o | .sax o | .lax o | .dcp o | .isc o | .ahx o => o.bytes
  | .bcc off | .bcs off | .beq off | .bne off | .bmi off | .bpl off | .bvc off | .bvs off => [off]
  | .anc _ v | .alr v | .arr v | .axs v | .sbcUndoc v => [v]
  | .jsr a | .las a | .shx a | .shy a | .tas a => [loByte a, hiByte a]
  | .nopUndoc (.zp _ a) | .nopUndoc (.zpx _ a) => [a]
  | .nopUndoc (.abs a) | .nopUndoc (.abx _ a) => [loByte a, hiByte a]
  | .brk | .xaa | .lxa | .nopUndoc (.imm _) => [0]
  | .nopUndoc (.imp _) | .jam _ => []
  | .tax | .tay | .txa | .tya | .tsx | .txs | .pha | .php | .pla | .plp => []
  | .inx | .dex | .iny | .dey | .rts | .rti | .nop => []
  | .clc | .sec | .cli | .sei | .cld | .sed | .clv => []

/-- The encoder: the bytes of an instruction, in increasing address order; no bytes for one that is no row of the
table. BRK is encoded with its padding byte (`BRK_PAD` = 1, the spec's default). -/
def encode (i : Instr) : List Byte :=
  match opcode i with
  | none => []
  | some op => op :: operandBytes i

end Sys2Proof
end

