-- ==== Sys2Proof/Machine/State.lean ====
section
/-! DEFINITION. The machine's state as plain data (10_state.md), the reasons a step can stop (there are none), and the
state after power-on (R37, R340). -/

namespace Sys2Proof.Machine

/-- A byte array: its non-zero bytes as (index, byte), indices strictly rising (the form is `Memory.wf`, Ops.lean). An
unlisted byte reads as 0x00: RAM is "zero-initialized" (R30); for PRG it is a DESIGN CHOICE (log 4). -/
abbrev Memory := List Host.Cell

/-- The launch parameters (00_scope.md R4): fixed when the machine is constructed, never changed by a step (log 3). -/
structure Launch where
  /-- `PRG`, by index (R31) -/
  prg : Memory
  /-- `prg_len` (R4, R56) -/
  prgLen : Nat
  /-- `BRK_PAD` (R4; D4) -/
  brkPad : Fin 2
  /-- `BRANCH_PAGE_REF` (R4; D5) -/
  branchPageRef : BranchPageRef
  deriving DecidableEq, Repr

/-- The machine's whole state (10_state.md), and two fields of the model's own. -/
structure State where
  /-- A (R20) -/
  a : Byte
  /-- X (R20) -/
  x : Byte
  /-- Y (R20) -/
  y : Byte
  /-- SP (R22) -/
  sp : Byte
  /-- P: C Z I D B U V N in bits 0 to 7 (R23) -/
  p : Byte
  /-- PC (R21) -/
  pc : Addr
  /-- cycles_remaining (R26) -/
  cyclesRemaining : Nat
  /-- total_cycles (R27) -/
  totalCycles : BitVec 64
  /-- internal RAM, by index 0 to 2047 (R30) -/
  ram : Memory
  /-- the PPU's interface state (R33) -/
  ppu : Ppu
  /-- clk.master_ticks (R35) -/
  masterTicks : Nat
  /-- the launch parameters (R4, R31) -/
  launch : Launch
  /-- the model's own: the host's calls, each with the master tick in whose gap it is made (I9, D20; log 14) -/
  schedule : List (Nat × HostCall)
  /-- the model's own: how many reads with a free value have been made (log 7) -/
  freeReads : Nat
  deriving DecidableEq, Repr

/-- Faults. None exists: "No instruction, addressing mode, bus access or interrupt raises a fault" (R8), so the type
has no constructor. Safe. -/
inductive Fault where
  deriving DecidableEq, Repr

/-- Refusals. -/
inductive Refusal where
  /-- raised by an arm of `exec` for an instruction without a meaning; no arm does. Safe. -/
  | notModelled (mnemonic : String)
  /-- raised by `launch` alone, for a `prg_len` that is zero or no multiple of 16384: refused before the machine exists
  (R349; D29; I10). Safe. -/
  | illegalPrgLength
  deriving DecidableEq, Repr

/-- The launch parameters of `State.reset`: no PRG byte listed, `prg_len` = 32768, and the spec's defaults for
`BRK_PAD` and `BRANCH_PAGE_REF`. DESIGN CHOICE for PRG and `prg_len` (log 3, log 4). -/
def Launch.empty : Launch :=
  { prg := [], prgLen := 32768, brkPad := 1, branchPageRef := .opcodePc }

/-- The PPU's interface state at power-on (R37; D11). -/
def Ppu.powerOn : Ppu :=
  { ctrl := 0, mask := 0, status := 0, dataBuffer := 0, addrLatch := false, vramAddr := 0, nmiPending := false,
    internal := Config.ppuInit }

/-- The machine right after power-on (R37, R340) with the launch parameters `Launch.empty`: PC is the word at 0xFFFC
of that PRG, 0x0000. -/
def State.reset : State :=
  { a := 0x00, x := 0x00, y := 0x00, sp := 0xFD, p := 0x24, pc := 0x0000,
    cyclesRemaining := 0, totalCycles := 0, ram := [], ppu := Ppu.powerOn, masterTicks := 0,
    launch := Launch.empty, schedule := [], freeReads := 0 }

end Sys2Proof.Machine
end

