-- ==== Sys2Proof/Machine/Flags.lean ====
section
/-! DEFINITION. The flags of P (10_state.md R23) and the ALU primitives (40_execution_and_addressing.md R146 to
R150), pure functions of bytes. -/

namespace Sys2Proof.Machine

/-- The flags of P, named as in R23. -/
inductive Flag where
  | c | z | i | d | b | u | v | n
  deriving DecidableEq, Repr

/-- The bit of P that holds a flag (R23). -/
def Flag.bit : Flag → Nat
  | .c => 0
  | .z => 1
  | .i => 2
  | .d => 3
  | .b => 4
  | .u => 5
  | .v => 6
  | .n => 7

/-- A flag's value in a status byte. -/
def getFlag (f : Flag) (p : Byte) : Bool := p.getLsbD f.bit

/-- A status byte with one flag written. -/
def putFlag (f : Flag) (v : Bool) (p : Byte) : Byte :=
  if v then p ||| 1#8 <<< f.bit else p &&& ~~~(1#8 <<< f.bit)

/-- `set_zn(v)` on a status byte (R141). -/
def putZN (v p : Byte) : Byte := putFlag .n (v.getLsbD 7) (putFlag .z (v == 0) p)

/-- The byte PHP and BRK push: `P | B | U` (R173, R240). -/
def pushedWithB (p : Byte) : Byte := p ||| 0x30

/-- The P that PLP and RTI load from a stacked byte: B forced 0, U forced 1 (R175, R241). -/
def pulledP (v : Byte) : Byte := v &&& 0xEF ||| 0x20

/-- P on NMI and IRQ entry: `P.B <- 0; P.I <- 1; P.U <- 1` (R302, R303). -/
def interruptP (p : Byte) : Byte := putFlag .u true (putFlag .i true (putFlag .b false p))

/-- `asl8` (R146): result and carry-out. -/
def asl8 (v : Byte) : Byte × Bool := (v <<< 1, v.getLsbD 7)

/-- `lsr8` (R147): result and carry-out. -/
def lsr8 (v : Byte) : Byte × Bool := (v >>> 1, v.getLsbD 0)

/-- `rol8` (R148): result and carry-out. -/
def rol8 (v : Byte) (cin : Bool) : Byte × Bool := (v <<< 1 ||| (BitVec.ofBool cin).setWidth 8, v.getLsbD 7)

/-- `ror8` (R149): result and carry-out. -/
def ror8 (v : Byte) (cin : Bool) : Byte × Bool := (v >>> 1 ||| (BitVec.ofBool cin).setWidth 8 <<< 7, v.getLsbD 0)

/-- What `adc8` gives (R150). -/
structure Sum where
  r : Byte
  c : Bool
  v : Bool
  deriving DecidableEq, Repr

/-- `adc8(a, m, cin)` (R150): binary only. -/
def adc8 (a m : Byte) (cin : Bool) : Sum :=
  let s := a.toNat + m.toNat + cin.toNat
  let r := BitVec.ofNat 8 s
  { r := r, c := decide (0xFF < s), v := (~~~(a ^^^ m) &&& (a ^^^ r) &&& 0x80) != 0 }

/-- The result of ARR from `t = A & M` and the carry before (R271): `r`. -/
def arrResult (t : Byte) (cin : Bool) : Byte := (ror8 t cin).1

end Sys2Proof.Machine
end

