-- ==== Sys2Proof/Machine/Ops.lean ====
section
/-! DEFINITION. The named operations over memory and registers: byte arrays, register writes, the bus and the PPU
register window (20_memory.md), the stack (R142 to R145), taking an interrupt and returning from one (60_exceptions.md),
reset and launch, and fetching an instruction's bytes. -/

namespace Sys2Proof.Machine

/-! ### Byte arrays -/

/-- The byte at an index; an unlisted one is 0x00. -/
def Memory.read : Memory → Nat → Byte
  | [], _ => 0x00
  | (k, b) :: m, i => if k = i then b else Memory.read m i

/-- The array with one byte written, in canonical form: a zero byte is not listed. -/
def Memory.write : Memory → Nat → Byte → Memory
  | [], i, v => if v = 0x00 then [] else [(i, v)]
  | (k, b) :: m, i, v =>
    if i < k then (if v = 0x00 then (k, b) :: m else (i, v) :: (k, b) :: m)
    else if i = k then (if v = 0x00 then m else (i, v) :: m)
    else (k, b) :: Memory.write m i v

/-- All listed indices lie from `lo` on, strictly rising, and no listed byte is 0x00. -/
def Memory.wfFrom : Nat → Memory → Bool
  | _, [] => true
  | lo, (k, b) :: m => decide (lo ≤ k) && b != 0x00 && Memory.wfFrom (k + 1) m

/-- The canonical form: equal arrays are equal lists (log 21). -/
def Memory.wf (m : Memory) : Bool := Memory.wfFrom 0 m

/-- Every listed index is below the array's size. -/
def Memory.below (size : Nat) (m : Memory) : Bool := m.all fun c => decide (c.1 < size)

/-! ### Register writes -/

def State.setA (v : Byte) (s : State) : State := { s with a := v }
def State.setX (v : Byte) (s : State) : State := { s with x := v }
def State.setY (v : Byte) (s : State) : State := { s with y := v }
def State.setSP (v : Byte) (s : State) : State := { s with sp := v }
def State.setP (v : Byte) (s : State) : State := { s with p := v }
def State.setPC (v : Addr) (s : State) : State := { s with pc := v }
def State.setRam (v : Memory) (s : State) : State := { s with ram := v }
def State.setPpu (v : Ppu) (s : State) : State := { s with ppu := v }
def State.setCyclesRemaining (v : Nat) (s : State) : State := { s with cyclesRemaining := v }
def State.setTotalCycles (v : BitVec 64) (s : State) : State := { s with totalCycles := v }
def State.setMasterTicks (v : Nat) (s : State) : State := { s with masterTicks := v }
def State.setSchedule (v : List (Nat × HostCall)) (s : State) : State := { s with schedule := v }
def State.setFreeReads (v : Nat) (s : State) : State := { s with freeReads := v }

/-- A flag of the live P. -/
def State.flag (f : Flag) (s : State) : Bool := getFlag f s.p

/-- Write one flag of the live P. -/
def State.setFlag (f : Flag) (v : Bool) (s : State) : State := s.setP (putFlag f v s.p)

/-- `set_zn(v)` (R141). -/
def State.setZN (v : Byte) (s : State) : State := s.setP (putZN v s.p)

/-! ### The PPU register window (R64 to R71) -/

/-- Index 2 read, PPUSTATUS (R66): the result is formed before the vblank bit is cleared. -/
def ppuReadStatus (u : Ppu) : Byte × Ppu :=
  (u.status &&& 0xE0 ||| u.dataBuffer &&& 0x1F, { u with status := u.status &&& 0x7F, addrLatch := false })

/-- The PPUDATA address increment: 32 if `ctrl[2]`, else 1 (R69, R70; D15). -/
def ppuIncrement (u : Ppu) : Addr := if u.ctrl.getLsbD 2 then 32 else 1

/-- Index 7 read, PPUDATA (R69). -/
def ppuReadData (u : Ppu) : Byte × Ppu :=
  let m := Config.ppuMemRead u u.vramAddr
  (if u.vramAddr.toNat < 0x3F00 then u.dataBuffer else m,
    { u with dataBuffer := m, vramAddr := u.vramAddr + ppuIncrement u })

/-- Index 6 write, PPUADDR (R68). -/
def ppuWriteAddr (v : Byte) (u : Ppu) : Ppu :=
  if u.addrLatch then { u with vramAddr := word (hiByte u.vramAddr) v, addrLatch := false }
  else { u with vramAddr := word v (loByte u.vramAddr), addrLatch := true }

/-- Index 7 write, PPUDATA (R70). -/
def ppuWriteData (v : Byte) (u : Ppu) : Ppu :=
  { u with internal := Config.ppuMemWrite u u.vramAddr v, vramAddr := u.vramAddr + ppuIncrement u }

/-- `PpuRegWrite(i, v)` (R64, R65, R67, R68, R70, R71). -/
def ppuRegWrite (i : BitVec 3) (v : Byte) (u : Ppu) : Ppu :=
  match i.toNat with
  | 0 => { u with ctrl := v }
  | 1 => { u with mask := v }
  | 2 => u
  | 6 => ppuWriteAddr v u
  | 7 => ppuWriteData v u
  | _ => { u with internal := Config.ppuRegWriteInternal u i v }

/-- `PpuRegRead(i)` (R66, R69, R71). -/
def ppuRegRead (i : BitVec 3) (s : State) : Byte × State :=
  match i.toNat with
  | 2 => ((ppuReadStatus s.ppu).1, s.setPpu (ppuReadStatus s.ppu).2)
  | 7 => ((ppuReadData s.ppu).1, s.setPpu (ppuReadData s.ppu).2)
  | _ => (Config.ppuWriteOnlyRead s.freeReads i, s.setFreeReads (s.freeReads + 1))

/-! ### The bus (R50 to R57) -/

/-- The RAM index of an address below 0x2000: `addr & 0x07FF` (R51, R53). -/
def ramIndex (a : Addr) : Nat := (a &&& 0x07FF).toNat

/-- The PPU register index of an address in 0x2000 to 0x3FFF: `addr & 0x0007` (R51, R54). -/
def ppuIndex (a : Addr) : BitVec 3 := a.extractLsb' 0 3

/-- The PRG index of an address from 0x8000 on: `(addr - 0x8000) mod prg_len` (R56). -/
def prgIndex (l : Launch) (a : Addr) : Nat := (a.toNat - 0x8000) % l.prgLen

/-- `prg_read(addr)` under mapper 0 (R56). -/
def prgRead (a : Addr) (s : State) : Byte × State :=
  if 0x8000 ≤ a.toNat then (s.launch.prg.read (prgIndex s.launch a), s)
  else (Config.cartLowRead s.freeReads a, s.setFreeReads (s.freeReads + 1))

/-- `prg_write(addr, v)` under mapper 0 changes nothing (R57). -/
def prgWrite (_a : Addr) (_v : Byte) (s : State) : State := s

/-- `rd(addr)` (R51). -/
def rd (a : Addr) (s : State) : Byte × State :=
  if a.toNat ≤ 0x1FFF then (s.ram.read (ramIndex a), s)
  else if a.toNat ≤ 0x3FFF then ppuRegRead (ppuIndex a) s
  else prgRead a s

/-- `wr(addr, v)` (R52). -/
def wr (a : Addr) (v : Byte) (s : State) : State :=
  if a.toNat ≤ 0x1FFF then s.setRam (s.ram.write (ramIndex a) v)
  else if a.toNat ≤ 0x3FFF then s.setPpu (ppuRegWrite (ppuIndex a) v s.ppu)
  else prgWrite a v s

/-- The byte of RAM or PRG that an address names, without a bus access; none where the bus reaches no memory
(0x2000 to 0x7FFF). For statements and for placing programs; no instruction uses it. -/
def State.byteAt (s : State) (a : Addr) : Option Byte :=
  if a.toNat ≤ 0x1FFF then some (s.ram.read (ramIndex a))
  else if 0x8000 ≤ a.toNat then some (s.launch.prg.read (prgIndex s.launch a))
  else none

/-- `read_word_le(a)` (R138): low byte first. -/
def readWordLe (a : Addr) (s : State) : Addr × State :=
  let lo := rd a s
  let hi := rd (a + 1) lo.2
  (word hi.1 lo.1, hi.2)

/-- The address of the high byte in `read_word_bug`: `(a & 0xFF00) | ((a + 1) & 0x00FF)` (R139). -/
def nextInPage (a : Addr) : Addr := a &&& 0xFF00 ||| (a + 1) &&& 0x00FF

/-- `read_word_bug(a)` (R139). -/
def readWordBug (a : Addr) (s : State) : Addr × State :=
  let lo := rd a s
  let hi := rd (nextInPage a) lo.2
  (word hi.1 lo.1, hi.2)

/-! ### The stack (R22, R142 to R145) -/

/-- `0x0100 | SP` (R22). -/
def stackAddr (sp : Byte) : Addr := 0x0100 ||| sp.setWidth 16

/-- `push8(v)` (R142): write, then decrement. -/
def push8 (v : Byte) (s : State) : State := (wr (stackAddr s.sp) v s).setSP (s.sp - 1)

/-- `pop8()` (R143): increment, then read. -/
def pop8 (s : State) : Byte × State := rd (stackAddr (s.sp + 1)) (s.setSP (s.sp + 1))

/-- `push16(w)` (R144): high byte, then low byte. -/
def push16 (w : Addr) (s : State) : State := push8 (loByte w) (push8 (hiByte w) s)

/-- `pop16()` (R145): low byte, then high byte. -/
def pop16 (s : State) : Addr × State :=
  let lo := pop8 s
  let hi := pop8 lo.2
  (word hi.1 lo.1, hi.2)

/-! ### Interrupts (60_exceptions.md) -/

/-- Taking an interrupt, the shape NMI, IRQ and BRK share (R302 to R305): push PC, push a status byte, set the live
P, load PC from the vector. -/
def interrupt (vector : Addr) (pushed live : Byte) (s : State) : State :=
  let w := readWordLe vector (push8 pushed (push16 s.pc s))
  (w.2.setP live).setPC w.1

/-- `nmi()` (R302): 8 cycles, the stall cycles still owed are discarded (D22). -/
def nmi (s : State) : State :=
  ((interrupt 0xFFFA (interruptP s.p) (interruptP s.p) s).setTotalCycles (s.totalCycles + 8)).setCyclesRemaining 7

/-- `irq()` (R303): suppressed if `P.I` = 1; else 7 cycles. -/
def irq (s : State) : State :=
  if s.flag .i then s
  else
    ((interrupt 0xFFFE (interruptP s.p) (interruptP s.p) s).setTotalCycles (s.totalCycles + 7)).setCyclesRemaining 6

/-- BRK entry, the body of the BRK instruction (R240, R304). -/
def brkEntry (s : State) : State := interrupt 0xFFFE (pushedWithB s.p) (putFlag .i true s.p) s

/-- The return from an interrupt, the body of RTI (R241, R312): P, then PC, from the stack. -/
def interruptReturn (s : State) : State :=
  let v := pop8 s
  let w := pop16 (v.2.setP (pulledP v.1))
  w.2.setPC w.1

/-- `reset()` (R301). -/
def cpuReset (s : State) : State :=
  let w := readWordLe 0xFFFC { s with a := 0, x := 0, y := 0, sp := 0xFD, p := 0x24 }
  (w.2.setPC w.1).setCyclesRemaining 0

/-- Construction and the first `reset()` (R340), from launch parameters; refused for an illegal `prg_len` (R349; D29). -/
def launch (l : Launch) : Host.Outcome State Fault Refusal :=
  if l.prgLen = 0 ∨ l.prgLen % 16384 ≠ 0 then .refused .illegalPrgLength
  else .next (cpuReset { State.reset with launch := l })

/-! ### Fetching an instruction (R122 steps 1 to 3, R152, R60) -/

/-- Read the opcode byte at PC and the operand bytes its row reads, each an ordinary bus read, in increasing address
order (D30); PC stays at the opcode. The immediate byte, which the body reads at `pc0 + 1` (R127), is read here:
no bus access falls between (log 13). -/
def fetch (s : State) : Instr × State :=
  let op := rd s.pc s
  match (row op.1).reads with
  | 0 => (assemble op.1 0 0, op.2)
  | 1 =>
    let lo := rd (s.pc + 1) op.2
    (assemble op.1 lo.1 0, lo.2)
  | _ =>
    let lo := rd (s.pc + 1) op.2
    let hi := rd (s.pc + 2) lo.2
    (assemble op.1 lo.1 hi.1, hi.2)

end Sys2Proof.Machine
end

