-- ==== Sys2Proof/Machine/Operands.lean ====
section
/-! DEFINITION. The addressing-mode engines (40_execution_and_addressing.md R125 to R140), the cost of each form
(30_encoding.md R98, R104), and the instruction cycle around a body (R122 steps 3 to 8). -/

namespace Sys2Proof.Machine

/-! ### Addressing -/

/-- Where an operand is: the accumulator, the immediate byte itself, or a bus address. -/
inductive Loc where
  | acc
  | imm (v : Byte)
  | mem (ea : Addr)
  deriving DecidableEq, Repr

/-- What an engine gives: the operand's place, `page_crossed`, and the state after the engine's own reads. -/
structure Located where
  loc : Loc
  crossed : Bool
  state : State

/-- Two addresses lie in different pages (R140). -/
def pageCrossed (a b : Addr) : Bool := hiByte a != hiByte b

/-- A zero-page address (R128). -/
def zeroPage (b : Byte) : Addr := b.setWidth 16

/-- The engines of the twelve non-relative modes (R125 to R130, R132 to R137), from the fetched operand bytes. All
operand and pointer bytes are read before the body runs (R123). -/
def locate (o : Operand) (s : State) : Located :=
  match o with
  | .acc => ⟨.acc, false, s⟩
  | .imm v => ⟨.imm v, false, s⟩
  | .zp b => ⟨.mem (zeroPage b), false, s⟩
  | .zpx b => ⟨.mem (zeroPage (b + s.x)), false, s⟩
  | .zpy b => ⟨.mem (zeroPage (b + s.y)), false, s⟩
  | .abs w => ⟨.mem w, false, s⟩
  | .abx w => ⟨.mem (w + s.x.setWidth 16), pageCrossed w (w + s.x.setWidth 16), s⟩
  | .aby w => ⟨.mem (w + s.y.setWidth 16), pageCrossed w (w + s.y.setWidth 16), s⟩
  | .ind w =>
    let ea := readWordBug w s
    ⟨.mem ea.1, false, ea.2⟩
  | .izx b =>
    let ea := readWordBug (zeroPage (b + s.x)) s
    ⟨.mem ea.1, false, ea.2⟩
  | .izy b =>
    let base := readWordBug (zeroPage b) s
    ⟨.mem (base.1 + s.y.setWidth 16), pageCrossed base.1 (base.1 + s.y.setWidth 16), base.2⟩

/-- The operand `M` (R124): `rd(ea)` once, `A`, or the immediate byte. -/
def readLoc (l : Loc) (s : State) : Byte × State :=
  match l with
  | .acc => (s.a, s)
  | .imm v => (v, s)
  | .mem ea => rd ea s

/-- Write to the operand's place: `wr(ea, v)` once, or `A`. No table row writes an immediate (log 15). -/
def writeLoc (l : Loc) (v : Byte) (s : State) : State :=
  match l with
  | .acc => s.setA v
  | .imm _ => s
  | .mem ea => wr ea v s

/-! ### Size and cost -/

/-- The size in bytes of an instruction with this operand (R96). -/
def operandSize : Operand → Nat
  | .acc => 1
  | .imm _ | .zp _ | .zpx _ | .zpy _ | .izx _ | .izy _ => 2
  | .abs _ | .abx _ | .aby _ | .ind _ => 3

/-- Base cycles and the extra-on-page-cross flag (R94, R98). -/
structure Cost where
  cycles : Nat
  extra : Bool
  deriving DecidableEq, Repr

/-- The cost of the instructions that read their operand, and of the NOPs with an operand (R98, R104). `acc` and
`ind` have no such row (log 15). -/
def readCost : Operand → Cost
  | .acc => ⟨2, false⟩
  | .imm _ => ⟨2, false⟩
  | .zp _ => ⟨3, false⟩
  | .zpx _ => ⟨4, false⟩
  | .zpy _ => ⟨4, false⟩
  | .abs _ => ⟨4, false⟩
  | .abx _ => ⟨4, true⟩
  | .aby _ => ⟨4, true⟩
  | .ind _ => ⟨5, false⟩
  | .izx _ => ⟨6, false⟩
  | .izy _ => ⟨5, true⟩

/-- The cost of the stores (R98, R104; D27): the indexed forms are flat. -/
def storeCost : Operand → Cost
  | .acc => ⟨2, false⟩
  | .imm _ => ⟨2, false⟩
  | .zp _ => ⟨3, false⟩
  | .zpx _ => ⟨4, false⟩
  | .zpy _ => ⟨4, false⟩
  | .abs _ => ⟨4, false⟩
  | .abx _ => ⟨5, false⟩
  | .aby _ => ⟨5, false⟩
  | .ind _ => ⟨5, false⟩
  | .izx _ => ⟨6, false⟩
  | .izy _ => ⟨6, false⟩

/-- The cost of the read-modify-write instructions (R98, R104; D27): never a page-cross extra. -/
def modifyCost : Operand → Cost
  | .acc => ⟨2, false⟩
  | .imm _ => ⟨2, false⟩
  | .zp _ => ⟨5, false⟩
  | .zpx _ => ⟨6, false⟩
  | .zpy _ => ⟨6, false⟩
  | .abs _ => ⟨6, false⟩
  | .abx _ => ⟨7, false⟩
  | .aby _ => ⟨7, false⟩
  | .ind _ => ⟨7, false⟩
  | .izx _ => ⟨8, false⟩
  | .izy _ => ⟨8, false⟩

/-- The cost of JMP (R229): 3 absolute, 5 indirect. -/
def jumpCost : Operand → Cost
  | .ind _ => ⟨5, false⟩
  | .acc | .imm _ | .zp _ | .zpx _ | .zpy _ | .abs _ | .abx _ | .aby _ | .izx _ | .izy _ => ⟨3, false⟩

/-- What step 4 of R122 puts in `cycles_remaining`. -/
def Cost.charged (c : Cost) (crossed : Bool) : Nat := c.cycles + (if c.extra && crossed then 1 else 0)

/-! ### The instruction cycle -/

/-- Steps 4 and 5 of R122: set `cycles_remaining`, advance PC. -/
def advance (size cycles : Nat) (s : State) : State :=
  (s.setCyclesRemaining cycles).setPC (s.pc + BitVec.ofNat 16 size)

/-- Steps 7 and 8 of R122: charge the full cost; this call was the first cycle. -/
def retire (s : State) : State :=
  (s.setTotalCycles (s.totalCycles + BitVec.ofNat 64 s.cyclesRemaining)).setCyclesRemaining (s.cyclesRemaining - 1)

/-- An instruction without an operand: R122 steps 4 to 8 around a body. -/
def runImplied (size cycles : Nat) (body : State → State) (s : State) : Host.Outcome State Fault Refusal :=
  .next (retire (body (advance size cycles s)))

/-- An instruction with an operand: R122 steps 3 to 8 around a body that is given the operand's place. -/
def runOperand (c : Cost) (o : Operand) (body : Loc → State → State) (s : State) : Host.Outcome State Fault Refusal :=
  let l := locate o s
  .next (retire (body l.loc (advance (operandSize o) (c.charged l.crossed) l.state)))

/-- A body that reads its operand `M` once and goes on with it. -/
def withOperand (use : Byte → State → State) (l : Loc) (s : State) : State :=
  let m := readLoc l s
  use m.1 m.2

/-- A body that stores one byte computed from the registers, with no read of `ea` (R163). -/
def storing (v : State → Byte) (l : Loc) (s : State) : State := writeLoc l (v s) s

/-- A read-modify-write body: read once, write once, then go on with the old and the new byte (R75, R260). -/
def modifying (f : Byte → State → Byte) (andThen : Byte → Byte → State → State) (l : Loc) (s : State) : State :=
  let m := readLoc l s
  andThen m.1 (f m.1 m.2) (writeLoc l (f m.1 m.2) m.2)

/-! ### The accumulator operations the instructions share (R151, R260) -/

/-- `A <- v; set_zn(A)`. -/
def loadA (v : Byte) (s : State) : State := (s.setA v).setZN v

/-- `X <- v; set_zn(X)`. -/
def loadX (v : Byte) (s : State) : State := (s.setX v).setZN v

/-- `Y <- v; set_zn(Y)`. -/
def loadY (v : Byte) (s : State) : State := (s.setY v).setZN v

/-- `A <- A & m; set_zn(A)`. -/
def andA (m : Byte) (s : State) : State := loadA (s.a &&& m) s

/-- `A <- A | m; set_zn(A)`. -/
def oraA (m : Byte) (s : State) : State := loadA (s.a ||| m) s

/-- `A <- A ^ m; set_zn(A)`. -/
def eorA (m : Byte) (s : State) : State := loadA (s.a ^^^ m) s

/-- `do_adc(m)` (R151). -/
def doAdc (m : Byte) (s : State) : State :=
  let t := adc8 s.a m (s.flag .c)
  loadA t.r ((s.setFlag .c t.c).setFlag .v t.v)

/-- `do_cmp(reg, m)` (R151). -/
def doCmp (reg m : Byte) (s : State) : State := (s.setFlag .c (decide (m.toNat ≤ reg.toNat))).setZN (reg - m)

/-- A shift or rotate of the operand, then `P.C <- c` and the instruction's last part, given the new byte (R183 to
R186, R261 to R264). The carry in is the carry before the instruction. -/
def shifting (f : Byte → Bool → Byte × Bool) (andThen : Byte → State → State) : Loc → State → State :=
  modifying (fun m s => (f m (s.flag .c)).1)
    (fun m r s => andThen r (s.setFlag .c (f m (s.flag .c)).2))

/-- An increment or decrement of memory, then the instruction's last part, given the new byte (R205, R206, R267, R268). -/
def stepping (f : Byte → Byte) (andThen : Byte → State → State) : Loc → State → State :=
  modifying (fun m _ => f m) (fun _ r s => andThen r s)

end Sys2Proof.Machine
end

