-- ==== Sys2Proof/Machine/Arith.lean ====
section
/-! DEFINITION. Arithmetic, compare, increment and decrement instructions (43_arith_compare_incdec.md). -/

namespace Sys2Proof.Machine

/-- ADC (R200): D is never read. -/
def execAdc (o : Operand) (s : State) : Host.Outcome State Fault Refusal := runOperand (readCost o) o (withOperand doAdc) s

/-- `do_adc(m ^ 0xFF)`: the body of SBC (R201). -/
def doSbc (m : Byte) (s : State) : State := doAdc (m ^^^ 0xFF) s

/-- SBC (R201). -/
def execSbc (o : Operand) (s : State) : Host.Outcome State Fault Refusal := runOperand (readCost o) o (withOperand doSbc) s

/-- CMP (R202). -/
def execCmp (o : Operand) (s : State) : Host.Outcome State Fault Refusal :=
  runOperand (readCost o) o (withOperand fun m s => doCmp s.a m s) s

/-- CPX (R203). -/
def execCpx (o : Operand) (s : State) : Host.Outcome State Fault Refusal :=
  runOperand (readCost o) o (withOperand fun m s => doCmp s.x m s) s

/-- CPY (R204). -/
def execCpy (o : Operand) (s : State) : Host.Outcome State Fault Refusal :=
  runOperand (readCost o) o (withOperand fun m s => doCmp s.y m s) s

/-- INC (R205). -/
def execInc (o : Operand) (s : State) : Host.Outcome State Fault Refusal :=
  runOperand (modifyCost o) o (stepping (· + 1) State.setZN) s

/-- DEC (R206). -/
def execDec (o : Operand) (s : State) : Host.Outcome State Fault Refusal :=
  runOperand (modifyCost o) o (stepping (· - 1) State.setZN) s

/-- INX (R207). -/
def execInx (s : State) : Host.Outcome State Fault Refusal := runImplied 1 2 (fun s => loadX (s.x + 1) s) s

/-- DEX (R208). -/
def execDex (s : State) : Host.Outcome State Fault Refusal := runImplied 1 2 (fun s => loadX (s.x - 1) s) s

/-- INY (R209). -/
def execIny (s : State) : Host.Outcome State Fault Refusal := runImplied 1 2 (fun s => loadY (s.y + 1) s) s

/-- DEY (R210). -/
def execDey (s : State) : Host.Outcome State Fault Refusal := runImplied 1 2 (fun s => loadY (s.y - 1) s) s

end Sys2Proof.Machine
end

