-- ==== Sys2Proof/Machine/Control.lean ====
section
/-! DEFINITION. Branches, jumps, BIT, flag instructions, BRK, RTI, NOP (44_branch_jump_bit_flag_brk_rti_nop.md). -/

namespace Sys2Proof.Machine

/-- The Relative engine's target (R131): `pc0 + 2 + sext_16(b)`. -/
def branchTarget (pc0 : Addr) (off : Byte) : Addr := pc0 + 2 + sext off

/-- The address whose page the target's page is compared with (R131, `BRANCH_PAGE_REF`; D5). -/
def branchRef (r : BranchPageRef) (pc0 : Addr) : Addr :=
  match r with
  | .opcodePc => pc0
  | .nextPc => pc0 + 2

/-- The common branch rule (R220) with the Relative engine (R131): base 2 cycles, 1 more if taken, 1 more again if
the target crosses a page. -/
def branch (taken : Bool) (off : Byte) (s : State) : Host.Outcome State Fault Refusal :=
  let target := branchTarget s.pc off
  let crossed := pageCrossed (branchRef s.launch.branchPageRef s.pc) target
  runImplied 2 2
    (fun s =>
      if taken then (s.setCyclesRemaining (s.cyclesRemaining + (if crossed then 2 else 1))).setPC target else s) s

/-- BCC (R221). -/
def execBcc (off : Byte) (s : State) : Host.Outcome State Fault Refusal := branch (!s.flag .c) off s

/-- BCS (R222). -/
def execBcs (off : Byte) (s : State) : Host.Outcome State Fault Refusal := branch (s.flag .c) off s

/-- BEQ (R223). -/
def execBeq (off : Byte) (s : State) : Host.Outcome State Fault Refusal := branch (s.flag .z) off s

/-- BNE (R224). -/
def execBne (off : Byte) (s : State) : Host.Outcome State Fault Refusal := branch (!s.flag .z) off s

/-- BMI (R225). -/
def execBmi (off : Byte) (s : State) : Host.Outcome State Fault Refusal := branch (s.flag .n) off s

/-- BPL (R226). -/
def execBpl (off : Byte) (s : State) : Host.Outcome State Fault Refusal := branch (!s.flag .n) off s

/-- BVC (R227). -/
def execBvc (off : Byte) (s : State) : Host.Outcome State Fault Refusal := branch (!s.flag .v) off s

/-- BVS (R228). -/
def execBvs (off : Byte) (s : State) : Host.Outcome State Fault Refusal := branch (s.flag .v) off s

/-- `PC <- ea`: the body of JMP (R229). -/
def jumpTo (l : Loc) (s : State) : State :=
  match l with
  | .mem ea => s.setPC ea
  | .acc | .imm _ => s

/-- JMP (R229): absolute, or indirect through `read_word_bug` (R135). -/
def execJmp (o : Operand) (s : State) : Host.Outcome State Fault Refusal := runOperand (jumpCost o) o jumpTo s

/-- JSR (R230): pushes the address of its own last byte. -/
def execJsr (target : Addr) (s : State) : Host.Outcome State Fault Refusal :=
  runImplied 3 6 (fun s => (push16 (s.pc - 1) s).setPC target) s

/-- The body of RTS (R231). -/
def subroutineReturn (s : State) : State :=
  let w := pop16 s
  w.2.setPC (w.1 + 1)

/-- RTS (R231). -/
def execRts (s : State) : Host.Outcome State Fault Refusal := runImplied 1 6 subroutineReturn s

/-- The body of BIT (R232): N and V from the memory byte, Z from `A & M`. -/
def bitTest (m : Byte) (s : State) : State :=
  ((s.setFlag .z (s.a &&& m == 0)).setFlag .n (m.getLsbD 7)).setFlag .v (m.getLsbD 6)

/-- BIT (R232). -/
def execBit (o : Operand) (s : State) : Host.Outcome State Fault Refusal := runOperand (readCost o) o (withOperand bitTest) s

/-- CLC (R233). -/
def execClc (s : State) : Host.Outcome State Fault Refusal := runImplied 1 2 (State.setFlag .c false) s

/-- SEC (R234). -/
def execSec (s : State) : Host.Outcome State Fault Refusal := runImplied 1 2 (State.setFlag .c true) s

/-- CLI (R235): acts at once (D28). -/
def execCli (s : State) : Host.Outcome State Fault Refusal := runImplied 1 2 (State.setFlag .i false) s

/-- SEI (R236). -/
def execSei (s : State) : Host.Outcome State Fault Refusal := runImplied 1 2 (State.setFlag .i true) s

/-- CLD (R237). -/
def execCld (s : State) : Host.Outcome State Fault Refusal := runImplied 1 2 (State.setFlag .d false) s

/-- SED (R238). -/
def execSed (s : State) : Host.Outcome State Fault Refusal := runImplied 1 2 (State.setFlag .d true) s

/-- CLV (R239). -/
def execClv (s : State) : Host.Outcome State Fault Refusal := runImplied 1 2 (State.setFlag .v false) s

/-- BRK (R240): `1 + BRK_PAD` bytes, 7 cycles; the padding byte is skipped, never read. -/
def execBrk (s : State) : Host.Outcome State Fault Refusal := runImplied (1 + s.launch.brkPad.val) 7 brkEntry s

/-- RTI (R241). -/
def execRti (s : State) : Host.Outcome State Fault Refusal := runImplied 1 6 interruptReturn s

/-- NOP (R242). -/
def execNop (s : State) : Host.Outcome State Fault Refusal := runImplied 1 2 id s

end Sys2Proof.Machine
end

