-- ==== Sys2Proof/Machine/LoadStore.lean ====
section
/-! DEFINITION. Load, store, transfer and stack instructions (41_load_store_transfer_stack.md). -/

namespace Sys2Proof.Machine

/-- LDA (R160). -/
def execLda (o : Operand) (s : State) : Host.Outcome State Fault Refusal := runOperand (readCost o) o (withOperand loadA) s

/-- LDX (R161). -/
def execLdx (o : Operand) (s : State) : Host.Outcome State Fault Refusal := runOperand (readCost o) o (withOperand loadX) s

/-- LDY (R162). -/
def execLdy (o : Operand) (s : State) : Host.Outcome State Fault Refusal := runOperand (readCost o) o (withOperand loadY) s

/-- STA (R163). -/
def execSta (o : Operand) (s : State) : Host.Outcome State Fault Refusal := runOperand (storeCost o) o (storing State.a) s

/-- STX (R164). -/
def execStx (o : Operand) (s : State) : Host.Outcome State Fault Refusal := runOperand (storeCost o) o (storing State.x) s

/-- STY (R165). -/
def execSty (o : Operand) (s : State) : Host.Outcome State Fault Refusal := runOperand (storeCost o) o (storing State.y) s

/-- TAX (R166). -/
def execTax (s : State) : Host.Outcome State Fault Refusal := runImplied 1 2 (fun s => loadX s.a s) s

/-- TAY (R167). -/
def execTay (s : State) : Host.Outcome State Fault Refusal := runImplied 1 2 (fun s => loadY s.a s) s

/-- TXA (R168). -/
def execTxa (s : State) : Host.Outcome State Fault Refusal := runImplied 1 2 (fun s => loadA s.x s) s

/-- TYA (R169). -/
def execTya (s : State) : Host.Outcome State Fault Refusal := runImplied 1 2 (fun s => loadA s.y s) s

/-- TSX (R170). -/
def execTsx (s : State) : Host.Outcome State Fault Refusal := runImplied 1 2 (fun s => loadX s.sp s) s

/-- TXS (R171): no flags. -/
def execTxs (s : State) : Host.Outcome State Fault Refusal := runImplied 1 2 (fun s => s.setSP s.x) s

/-- PHA (R172). -/
def execPha (s : State) : Host.Outcome State Fault Refusal := runImplied 1 3 (fun s => push8 s.a s) s

/-- PHP (R173): the pushed byte is `P | B | U`; the live P is not changed. -/
def execPhp (s : State) : Host.Outcome State Fault Refusal := runImplied 1 3 (fun s => push8 (pushedWithB s.p) s) s

/-- The body of PLA (R174). -/
def pullA (s : State) : State :=
  let v := pop8 s
  loadA v.1 v.2

/-- PLA (R174). -/
def execPla (s : State) : Host.Outcome State Fault Refusal := runImplied 1 4 pullA s

/-- The body of PLP (R175). -/
def pullP (s : State) : State :=
  let v := pop8 s
  v.2.setP (pulledP v.1)

/-- PLP (R175): B forced 0, U forced 1. -/
def execPlp (s : State) : Host.Outcome State Fault Refusal := runImplied 1 4 pullP s

end Sys2Proof.Machine
end

