-- ==== Sys2Proof/Machine/LogicShift.lean ====
section
/-! DEFINITION. Logic and shift instructions (42_logic_shift.md). -/

namespace Sys2Proof.Machine

/-- AND (R180). -/
def execAnd (o : Operand) (s : State) : Host.Outcome State Fault Refusal := runOperand (readCost o) o (withOperand andA) s

/-- ORA (R181). -/
def execOra (o : Operand) (s : State) : Host.Outcome State Fault Refusal := runOperand (readCost o) o (withOperand oraA) s

/-- EOR (R182). -/
def execEor (o : Operand) (s : State) : Host.Outcome State Fault Refusal := runOperand (readCost o) o (withOperand eorA) s

/-- ASL (R183). -/
def execAsl (o : Operand) (s : State) : Host.Outcome State Fault Refusal :=
  runOperand (modifyCost o) o (shifting (fun m _ => asl8 m) State.setZN) s

/-- LSR (R184). -/
def execLsr (o : Operand) (s : State) : Host.Outcome State Fault Refusal :=
  runOperand (modifyCost o) o (shifting (fun m _ => lsr8 m) State.setZN) s

/-- ROL (R185). -/
def execRol (o : Operand) (s : State) : Host.Outcome State Fault Refusal :=
  runOperand (modifyCost o) o (shifting rol8 State.setZN) s

/-- ROR (R186). -/
def execRor (o : Operand) (s : State) : Host.Outcome State Fault Refusal :=
  runOperand (modifyCost o) o (shifting ror8 State.setZN) s

end Sys2Proof.Machine
end

