-- ==== Sys2Proof/Machine/Undocumented.lean ====
section
/-! DEFINITION. Undocumented opcodes (45_undocumented.md). The unstable opcodes and JAM are the no-operations their
rules R276 to R282 state (log 8, log 9). -/

namespace Sys2Proof.Machine

/-! ### Stable combined opcodes (R260 to R268): the memory operation, then the accumulator operation -/

/-- SLO (R261): ASL memory, then ORA. -/
def execSlo (o : Operand) (s : State) : Host.Outcome State Fault Refusal :=
  runOperand (modifyCost o) o (shifting (fun m _ => asl8 m) oraA) s

/-- RLA (R262): ROL memory, then AND. -/
def execRla (o : Operand) (s : State) : Host.Outcome State Fault Refusal :=
  runOperand (modifyCost o) o (shifting rol8 andA) s

/-- SRE (R263): LSR memory, then EOR. -/
def execSre (o : Operand) (s : State) : Host.Outcome State Fault Refusal :=
  runOperand (modifyCost o) o (shifting (fun m _ => lsr8 m) eorA) s

/-- RRA (R264): ROR memory, then ADC, whose carry-in is the bit rotated out. -/
def execRra (o : Operand) (s : State) : Host.Outcome State Fault Refusal :=
  runOperand (modifyCost o) o (shifting ror8 doAdc) s

/-- SAX (R265): store `A & X`. -/
def execSax (o : Operand) (s : State) : Host.Outcome State Fault Refusal :=
  runOperand (storeCost o) o (storing fun s => s.a &&& s.x) s

/-- `A <- M; X <- M; set_zn(M)`: the body of LAX (R266). -/
def loadAX (m : Byte) (s : State) : State := (s.setX m).setA m |>.setZN m

/-- LAX (R266). -/
def execLax (o : Operand) (s : State) : Host.Outcome State Fault Refusal := runOperand (readCost o) o (withOperand loadAX) s

/-- DCP (R267): DEC memory, then CMP. -/
def execDcp (o : Operand) (s : State) : Host.Outcome State Fault Refusal :=
  runOperand (modifyCost o) o (stepping (· - 1) fun r s => doCmp s.a r s) s

/-- ISC (R268): INC memory, then SBC. -/
def execIsc (o : Operand) (s : State) : Host.Outcome State Fault Refusal :=
  runOperand (modifyCost o) o (stepping (· + 1) doSbc) s

/-! ### Stable immediate and miscellaneous opcodes (R269 to R275) -/

/-- The body of ANC (R269): AND, then `P.C <- P.N`. -/
def ancBody (m : Byte) (s : State) : State :=
  let t := andA m s
  t.setFlag .c (t.flag .n)

/-- ANC (R269), both opcode bytes. -/
def execAnc (_k : Fin 2) (v : Byte) (s : State) : Host.Outcome State Fault Refusal :=
  runOperand (readCost (.imm v)) (.imm v) (withOperand ancBody) s

/-- The body of ALR (R270): AND, then LSR A. -/
def alrBody (m : Byte) (s : State) : State :=
  let rc := lsr8 (s.a &&& m)
  loadA rc.1 (s.setFlag .c rc.2)

/-- ALR (R270). -/
def execAlr (v : Byte) (s : State) : Host.Outcome State Fault Refusal :=
  runOperand (readCost (.imm v)) (.imm v) (withOperand alrBody) s

/-- The body of ARR (R271): AND, then ROR A; C is bit 6 of the result, V bit 6 xor bit 5. -/
def arrBody (m : Byte) (s : State) : State :=
  let r := arrResult (s.a &&& m) (s.flag .c)
  ((loadA r s).setFlag .c (r.getLsbD 6)).setFlag .v (r.getLsbD 6 ^^ r.getLsbD 5)

/-- ARR (R271). -/
def execArr (v : Byte) (s : State) : Host.Outcome State Fault Refusal :=
  runOperand (readCost (.imm v)) (.imm v) (withOperand arrBody) s

/-- The body of AXS (R272): a compare of `A & X` that stores its difference in X. -/
def axsBody (m : Byte) (s : State) : State :=
  let t := s.a &&& s.x
  loadX (t - m) (s.setFlag .c (decide (m.toNat ≤ t.toNat)))

/-- AXS (R272). -/
def execAxs (v : Byte) (s : State) : Host.Outcome State Fault Refusal :=
  runOperand (readCost (.imm v)) (.imm v) (withOperand axsBody) s

/-- The body of LAS (R273): `A, X, SP <- M & SP`. -/
def lasBody (m : Byte) (s : State) : State :=
  let v := m &&& s.sp
  loadAX v (s.setSP v)

/-- LAS (R273). -/
def execLas (a : Addr) (s : State) : Host.Outcome State Fault Refusal :=
  runOperand (readCost (.aby a)) (.aby a) (withOperand lasBody) s

/-- An instruction whose engine runs and whose body does nothing: `ea` is neither read nor written. -/
def idle (c : Cost) (o : Operand) (s : State) : Host.Outcome State Fault Refusal := runOperand c o (fun _ s => s) s

/-- The undocumented NOPs (R274): the immediate and addressed bytes are not read (D6). -/
def execNopUndoc (f : NopForm) (s : State) : Host.Outcome State Fault Refusal :=
  match f with
  | .imp _ => runImplied 1 2 id s
  | .imm _ => runImplied 2 2 id s
  | .zp _ a => idle (readCost (.zp a)) (.zp a) s
  | .zpx _ a => idle (readCost (.zpx a)) (.zpx a) s
  | .abs a => idle (readCost (.abs a)) (.abs a) s
  | .abx _ a => idle (readCost (.abx a)) (.abx a) s

/-- SBC `EB` (R275). -/
def execSbcUndoc (v : Byte) (s : State) : Host.Outcome State Fault Refusal :=
  runOperand (readCost (.imm v)) (.imm v) (withOperand doSbc) s

/-! ### Unstable opcodes (R276 to R281): no-operations of the mode's size and cost (D3) -/

/-- XAA (R276). -/
def execXaa (s : State) : Host.Outcome State Fault Refusal := runImplied 2 2 id s

/-- AHX (R277): the pointer bytes of the `izy` form are read. -/
def execAhx (o : Operand) (s : State) : Host.Outcome State Fault Refusal := idle (storeCost o) o s

/-- SHX (R278). -/
def execShx (a : Addr) (s : State) : Host.Outcome State Fault Refusal := idle (storeCost (.aby a)) (.aby a) s

/-- SHY (R279). -/
def execShy (a : Addr) (s : State) : Host.Outcome State Fault Refusal := idle (storeCost (.abx a)) (.abx a) s

/-- TAS (R280). -/
def execTas (a : Addr) (s : State) : Host.Outcome State Fault Refusal := idle (storeCost (.aby a)) (.aby a) s

/-- LXA (R281). -/
def execLxa (s : State) : Host.Outcome State Fault Refusal := runImplied 2 2 id s

/-! ### JAM -/

/-- JAM (R282): a one-byte, two-cycle no-operation, all twelve bytes (D2). -/
def execJam (_k : Fin 12) (s : State) : Host.Outcome State Fault Refusal := runImplied 1 2 id s

end Sys2Proof.Machine
end

