-- ==== Sys2Proof/Machine/Dispatch.lean ====
section
/-! DEFINITION. Every instruction's meaning. The state given to a meaning is the state after the instruction's bytes were
fetched, PC still at the opcode byte. -/

namespace Sys2Proof.Machine

def exec (i : Instr) (s : State) : Host.Outcome State Fault Refusal :=
  match i with
  | .lda o => Sys2Proof.Machine.execLda o s
  | .ldx o => Sys2Proof.Machine.execLdx o s
  | .ldy o => Sys2Proof.Machine.execLdy o s
  | .sta o => Sys2Proof.Machine.execSta o s
  | .stx o => Sys2Proof.Machine.execStx o s
  | .sty o => Sys2Proof.Machine.execSty o s
  | .tax => Sys2Proof.Machine.execTax s
  | .tay => Sys2Proof.Machine.execTay s
  | .txa => Sys2Proof.Machine.execTxa s
  | .tya => Sys2Proof.Machine.execTya s
  | .tsx => Sys2Proof.Machine.execTsx s
  | .txs => Sys2Proof.Machine.execTxs s
  | .pha => Sys2Proof.Machine.execPha s
  | .php => Sys2Proof.Machine.execPhp s
  | .pla => Sys2Proof.Machine.execPla s
  | .plp => Sys2Proof.Machine.execPlp s
  | .and o => Sys2Proof.Machine.execAnd o s
  | .ora o => Sys2Proof.Machine.execOra o s
  | .eor o => Sys2Proof.Machine.execEor o s
  | .asl o => Sys2Proof.Machine.execAsl o s
  | .lsr o => Sys2Proof.Machine.execLsr o s
  | .rol o => Sys2Proof.Machine.execRol o s
  | .ror o => Sys2Proof.Machine.execRor o s
  | .adc o => Sys2Proof.Machine.execAdc o s
  | .sbc o => Sys2Proof.Machine.execSbc o s
  | .cmp o => Sys2Proof.Machine.execCmp o s
  | .cpx o => Sys2Proof.Machine.execCpx o s
  | .cpy o => Sys2Proof.Machine.execCpy o s
  | .inc o => Sys2Proof.Machine.execInc o s
  | .dec o => Sys2Proof.Machine.execDec o s
  | .inx => Sys2Proof.Machine.execInx s
  | .dex => Sys2Proof.Machine.execDex s
  | .iny => Sys2Proof.Machine.execIny s
  | .dey => Sys2Proof.Machine.execDey s
  | .bcc off => Sys2Proof.Machine.execBcc off s
  | .bcs off => Sys2Proof.Machine.execBcs off s
  | .beq off => Sys2Proof.Machine.execBeq off s
  | .bne off => Sys2Proof.Machine.execBne off s
  | .bmi off => Sys2Proof.Machine.execBmi off s
  | .bpl off => Sys2Proof.Machine.execBpl off s
  | .bvc off => Sys2Proof.Machine.execBvc off s
  | .bvs off => Sys2Proof.Machine.execBvs off s
  | .jmp o => Sys2Proof.Machine.execJmp o s
  | .jsr target => Sys2Proof.Machine.execJsr target s
  | .rts => Sys2Proof.Machine.execRts s
  | .bit o => Sys2Proof.Machine.execBit o s
  | .clc => Sys2Proof.Machine.execClc s
  | .sec => Sys2Proof.Machine.execSec s
  | .cli => Sys2Proof.Machine.execCli s
  | .sei => Sys2Proof.Machine.execSei s
  | .cld => Sys2Proof.Machine.execCld s
  | .sed => Sys2Proof.Machine.execSed s
  | .clv => Sys2Proof.Machine.execClv s
  | .brk => Sys2Proof.Machine.execBrk s
  | .rti => Sys2Proof.Machine.execRti s
  | .nop => Sys2Proof.Machine.execNop s
  | .slo o => Sys2Proof.Machine.execSlo o s
  | .rla o => Sys2Proof.Machine.execRla o s
  | .sre o => Sys2Proof.Machine.execSre o s
  | .rra o => Sys2Proof.Machine.execRra o s
  | .sax o => Sys2Proof.Machine.execSax o s
  | .lax o => Sys2Proof.Machine.execLax o s
  | .dcp o => Sys2Proof.Machine.execDcp o s
  | .isc o => Sys2Proof.Machine.execIsc o s
  | .anc k v => Sys2Proof.Machine.execAnc k v s
  | .alr v => Sys2Proof.Machine.execAlr v s
  | .arr v => Sys2Proof.Machine.execArr v s
  | .axs v => Sys2Proof.Machine.execAxs v s
  | .las a => Sys2Proof.Machine.execLas a s
  | .nopUndoc f => Sys2Proof.Machine.execNopUndoc f s
  | .sbcUndoc v => Sys2Proof.Machine.execSbcUndoc v s
  | .xaa => Sys2Proof.Machine.execXaa s
  | .ahx o => Sys2Proof.Machine.execAhx o s
  | .shx a => Sys2Proof.Machine.execShx a s
  | .shy a => Sys2Proof.Machine.execShy a s
  | .tas a => Sys2Proof.Machine.execTas a s
  | .lxa => Sys2Proof.Machine.execLxa s
  | .jam k => Sys2Proof.Machine.execJam k s

end Sys2Proof.Machine
end

