-- ==== Sys2Proof/Machine/Clock.lean ====
section
/-! DEFINITION. The CPU's `step()` (40_execution_and_addressing.md R120 to R122), the PPU's dot (60_exceptions.md R320),
the System Clock's `tick()` with the NMI sample (R307 to R309), the host's calls between ticks (D20, I9), and the
placing of an instruction where the next step fetches. -/

namespace Sys2Proof.Machine

/-! ### The CPU step -/

/-- What a call of the CPU's `step()` gives its caller: a report, and how the call ends. -/
structure CpuCall where
  report : StepReport
  outcome : Host.Outcome State Fault Refusal

/-- A call of the CPU's `step()`: a stall cycle, which reports "instruction-not-yet-complete" (R121), or the fetch and
execution of one whole instruction (R122), whose report the spec does not state (log 20). -/
def cpuCall (s : State) : CpuCall :=
  if 0 < s.cyclesRemaining then
    { report := .instructionNotYetComplete
      outcome := .next (s.setCyclesRemaining (s.cyclesRemaining - 1)) }
  else
    { report := Config.executeReport s.totalCycles s.pc
      outcome := exec (fetch s).1 (fetch s).2 }

/-- `step()` of the CPU as the System Clock uses it: `tick()` does not look at the report (R307). -/
def cpuStep (s : State) : Host.Outcome State Fault Refusal := (cpuCall s).outcome

/-! ### The PPU dot -/

/-- `PpuStep()` (R320) on the PPU's interface state: what R320 fixes is written out, the rest is free (log 6). -/
def ppuStep (u : Ppu) : Ppu :=
  { u with
    status := if Config.ppuEntersVblank u then Config.ppuStatusAfter u ||| 0x80 else Config.ppuStatusAfter u
    vramAddr := Config.ppuVramAddrAfter u
    internal := Config.ppuInternalAfter u
    nmiPending := u.nmiPending || (u.ctrl.getLsbD 7 && Config.ppuEntersVblank u) }

/-- The first two lines of `tick()` (R307): one PPU dot, one more master tick. -/
def dot (s : State) : State := (s.setPpu (ppuStep s.ppu)).setMasterTicks (s.masterTicks + 1)

/-! ### The NMI sample -/

/-- After a CPU step: deliver a pending NMI and clear the flag (R307, R309). -/
def deliverNmi (s : State) : State :=
  if s.ppu.nmiPending then
    let t := nmi s
    t.setPpu { t.ppu with nmiPending := false }
  else s

/-- What follows a CPU step in `tick()` (R307). -/
def afterCpuStep : Host.Outcome State Fault Refusal → Host.Outcome State Fault Refusal
  | .next s => .next (deliverNmi s)
  | .fault r => .fault r
  | .refused r => .refused r

/-- `tick()`, one master tick (R307). -/
def tick (s : State) : Host.Outcome State Fault Refusal :=
  if (dot s).masterTicks % 3 = 0 then afterCpuStep (cpuStep (dot s)) else .next (dot s)

/-! ### The host between two master ticks -/

/-- One call of the host (R303, R341). -/
def hostCall (c : HostCall) (s : State) : State :=
  match c with
  | .irq => irq s
  | .reset => cpuReset s

/-- Make the calls that are due, in order, and keep the rest scheduled. -/
def runDue : List (Nat × HostCall) → State → State
  | [], s => s.setSchedule []
  | (t, c) :: rest, s => if t ≤ s.masterTicks then runDue rest (hostCall c s) else s.setSchedule ((t, c) :: rest)

/-- The gap before a master tick: the scheduled calls that are due (log 14). -/
def hostGap (s : State) : State := runDue s.schedule s

/-! ### Placing an instruction (log 2) -/

/-- Memory can hold a byte at this address: it is RAM or PRG. -/
def placeable (a : Addr) : Bool := decide (a.toNat ≤ 0x1FFF) || decide (0x8000 ≤ a.toNat)

/-- Put a byte into RAM or PRG, as a loader does (not a bus write). -/
def placeByte (a : Addr) (v : Byte) (s : State) : State :=
  if a.toNat ≤ 0x1FFF then s.setRam (s.ram.write (ramIndex a) v)
  else if 0x8000 ≤ a.toNat then
    { s with launch := { s.launch with prg := s.launch.prg.write (prgIndex s.launch a) v } }
  else s

/-- Where an instruction of up to three bytes is placed: at PC, unless no memory stands there; then at 0x0000. -/
def fetchBase (s : State) : Addr :=
  if placeable s.pc && placeable (s.pc + 1) && placeable (s.pc + 2) && decide (3 ≤ s.launch.prgLen) then s.pc else 0x0000

/-- The next tick is one that carries a CPU step, the CPU is at an instruction boundary, and no host call is due. -/
def readyToFetch (s : State) : State :=
  let ticks := 3 * (s.masterTicks / 3) + 2
  { s with
    masterTicks := ticks
    cyclesRemaining := 0
    schedule := s.schedule.filter fun e => decide (ticks < e.1) }

/-- Place three bytes where the next step fetches. -/
def placeInstr (b0 b1 b2 : Byte) (s : State) : State :=
  let t := (readyToFetch s).setPC (fetchBase s)
  placeByte (t.pc + 2) b2 (placeByte (t.pc + 1) b1 (placeByte t.pc b0 t))

end Sys2Proof.Machine
end

