-- ==== Sys2Proof/Machine/Step.lean ====
section
/-! DEFINITION. One step of the machine: the host's calls that are due, then one master tick (log 1). -/

namespace Sys2Proof.Machine

/-- One step: the gap before the tick (D20), then `tick()` (60_exceptions.md R307). -/
def step (s : State) : Host.Outcome State Fault Refusal := tick (hostGap s)

/-- The instruction of `nbits` bits `w` (bit 0 the least significant bit of its first byte, every higher bit 0) placed
so that the very next step runs it (log 2). -/
def State.withFetchWord (s : State) (nbits w : Nat) : State :=
  let v := w % 2 ^ nbits
  placeInstr (BitVec.ofNat 8 v) (BitVec.ofNat 8 (v >>> 8)) (BitVec.ofNat 8 (v >>> 16)) s

end Sys2Proof.Machine
end

