-- ==== Sys2Proof/Safety.lean ====
section
/-! DEFINITION. What the claims mean by completing, by a good state, and by the end of a run. -/

namespace Sys2Proof.Machine

/-- The step or instruction goes on to a next state. -/
abbrev Completes (r : Host.Outcome State Fault Refusal) : Prop := ∃ t, r = .next t

/-- An instruction boundary: `cycles_remaining` = 0 (R153). -/
abbrev State.AtBoundary (s : State) : Prop := s.cyclesRemaining = 0

/-- What holds in every state the machine reaches: `P.U` = 1 and `P.B` = 0 (R24); the byte arrays in canonical form
and within their sizes (R30, R31); a legal `prg_len` (R56; D29); `cycles_remaining` at most 7 (R26). -/
abbrev State.Inv (s : State) : Prop :=
  getFlag .u s.p = true ∧ getFlag .b s.p = false ∧
  s.ram.wf = true ∧ s.ram.below 2048 = true ∧
  s.launch.prg.wf = true ∧ s.launch.prg.below s.launch.prgLen = true ∧
  16384 ≤ s.launch.prgLen ∧ s.launch.prgLen % 16384 = 0 ∧
  s.cyclesRemaining ≤ 7

/-- How a run ends (R347; D38). -/
inductive RunEnd where
  /-- the host's predicate held at an instruction boundary -/
  | stopped (s : State)
  /-- the tick budget ran out -/
  | outOfBudget (s : State)
  /-- a step did not complete -/
  | halted (s : State)

/-- Run until a predicate holds at an instruction boundary, or a tick budget is used up (R347; D38). -/
def runUntil (stop : State → Bool) : Nat → State → RunEnd
  | 0, s => if decide s.AtBoundary && stop s then .stopped s else .outOfBudget s
  | k + 1, s =>
    if decide s.AtBoundary && stop s then .stopped s
    else
      match step s with
      | .next t => runUntil stop k t
      | .fault _ => .halted s
      | .refused _ => .halted s

end Sys2Proof.Machine
end

