-- ==== Sys2Proof/Certificates/Slice0/Obligations.lean ====
section
/-! DEFINITION. The statements for the provers. The spec's general knowledge (30_encoding.md R98, K1: opcode bytes,
costs, which flag a branch tests, formulas of the undocumented opcodes) and its decisions (D1 to D38) stand behind many
of them; a statement whose words rest on one says so. -/

namespace Sys2Proof.Claims

open Sys2Proof.Machine

/-! ### Words the statements share -/

/-- The numbered general registers and the stack pointer. -/
inductive Reg where
  | a | x | y | sp
  deriving DecidableEq, Repr

/-- A register's value. -/
def Reg.get : Reg → State → Byte
  | .a => State.a
  | .x => State.x
  | .y => State.y
  | .sp => State.sp

/-- The value a list of flag values gives a flag: that of its first entry for the flag, else `old`. -/
def listedFlag (f : Flag) (old : Bool) : List (Flag × Bool) → Bool
  | [] => old
  | (g, v) :: l => if f = g then v else listedFlag f old l

/-- Every flag of the new status byte is as listed; a flag not listed is as it was. -/
def FlagsAre (old new : Byte) (listed : List (Flag × Bool)) : Prop :=
  ∀ f, getFlag f new = listedFlag f (getFlag f old) listed

/-- What `set_zn(v)` leaves in Z and N (R141). -/
def zn (v : Byte) : List (Flag × Bool) := [(.z, decide (v = 0)), (.n, decide (128 ≤ v.toNat))]

/-- The registers not listed, the master ticks, the launch parameters, the host's schedule and the pending NMI are
unchanged. -/
def Keeps (s t : State) (dests : List Reg) : Prop :=
  (∀ r, r ∉ dests → r.get t = r.get s) ∧ t.masterTicks = s.masterTicks ∧ t.launch = s.launch ∧
  t.schedule = s.schedule ∧ t.ppu.nmiPending = s.ppu.nmiPending

/-- Every byte of memory reads as before. -/
def KeepsMemory (s t : State) : Prop := ∀ b, t.byteAt b = s.byteAt b

/-- Two addresses name the same RAM byte (R53). -/
def SameCell (b c : Addr) : Prop := b.toNat ≤ 0x1FFF ∧ c.toNat ≤ 0x1FFF ∧ b.toNat % 2048 = c.toNat % 2048

/-- The byte `v` was written at `ea`: every byte of memory but the one `ea` names reads as before, and that one reads as
`v` if it is RAM (and the RAM list is in canonical form, an invariant of the machine). -/
def StoresByte (s t : State) (ea : Addr) (v : Byte) : Prop :=
  (∀ b, ¬SameCell b ea → t.byteAt b = s.byteAt b) ∧
  (s.ram.wf = true → ∀ b, SameCell b ea → t.byteAt b = some v)

/-- `exec i s` answers a next state, with this PC, this many cycles charged (R122 steps 7 and 8), and `Q`. -/
def Runs (i : Instr) (s : State) (pc : Addr) (cycles : Nat) (Q : State → Prop) : Prop :=
  ∃ t, exec i s = .next t ∧ t.pc = pc ∧ t.totalCycles = s.totalCycles + BitVec.ofNat 64 cycles ∧
    t.cyclesRemaining = cycles - 1 ∧ Q t

/-- The same for an instruction that goes on to the next one in sequence, with the cost of its operand form. -/
def RunsOn (i : Instr) (c : Cost) (o : Operand) (s : State) (Q : State → Prop) : Prop :=
  Runs i s (s.pc + BitVec.ofNat 16 (operandSize o)) (c.charged (locate o s).crossed) Q

/-- The same for an instruction that touches neither memory nor the PPU: one byte, two cycles. -/
def RunsInside (i : Instr) (s : State) (Q : State → Prop) : Prop :=
  Runs i s (s.pc + 1) 2 fun t => KeepsMemory s t ∧ t.ppu = s.ppu ∧ Q t

/-- The operand `M` and the state after its one read (R124). -/
def operandRead (o : Operand) (s : State) : Byte × State := readLoc (locate o s).loc (locate o s).state

/-- The operand `M`. -/
def operandOf (o : Operand) (s : State) : Byte := (operandRead o s).1

/-- An instruction that reads its operand and changes only the listed registers and flags; the PPU's interface state is
that after the read. -/
def ReadsOperand (i : Instr) (o : Operand) (s : State) (dests : List Reg) (Q : State → Prop) : Prop :=
  RunsOn i (readCost o) o s fun t =>
    Keeps s t dests ∧ KeepsMemory s t ∧ t.ppu = (operandRead o s).2.ppu ∧ Q t

/-- An instruction that writes `v` to its operand's address after reading the operand first (`base` is the state the
write acts on): it stores at the address the addressing mode gives and nowhere else. -/
def WritesOperand (o : Operand) (s t base : State) (v : Byte) : Prop :=
  ∀ ea, (locate o s).loc = .mem ea → StoresByte s t ea v ∧ t.ppu = (wr ea v base).ppu

/-- The carry flag as a number. -/
def carry (s : State) : Nat := if s.flag .c then 1 else 0

/-- One entry of `DESCRIPTOR` (R94): size, base cycles, extra-on-page-cross flag. -/
structure Descriptor where
  size : Nat
  cycles : Nat
  extra : Bool
  deriving DecidableEq, Repr

/-- The byte `k` above the stack pointer, in page 1 with wrap (R22, R143). -/
def stackByte (s : State) (k : Byte) : Byte := s.ram.read (0x0100 + (s.sp + k).toNat)

/-- The little-endian word PRG shows at an address from 0x8000 on (R56, R59, R60). -/
def prgWord (s : State) (a : Nat) : Addr :=
  word (s.launch.prg.read ((a + 1 - 0x8000) % s.launch.prgLen)) (s.launch.prg.read ((a - 0x8000) % s.launch.prgLen))

/-- What NMI, IRQ and BRK entry share (R305): three bytes pushed, PC from the vector, nothing else touched but P and the
cycle counters. -/
def EntersInterrupt (s t : State) (pushedPc : Addr) (vector : Nat) (pushedP : Byte) : Prop :=
  t.sp = s.sp - 3 ∧ t.pc = prgWord s vector ∧
  (s.ram.wf = true →
    t.byteAt (stackAddr s.sp) = some (hiByte pushedPc) ∧ t.byteAt (stackAddr (s.sp - 1)) = some (loByte pushedPc) ∧
    t.byteAt (stackAddr (s.sp - 2)) = some pushedP) ∧
  (∀ b, ¬SameCell b (stackAddr s.sp) → ¬SameCell b (stackAddr (s.sp - 1)) → ¬SameCell b (stackAddr (s.sp - 2)) →
    t.byteAt b = s.byteAt b) ∧
  Keeps s t [.sp] ∧ t.ppu = s.ppu

/-- `P.U` = 1 and `P.B` = 0 (R24). -/
def UAndB (s : State) : Prop := s.flag .u = true ∧ s.flag .b = false

/-- Several CPU steps in a row. -/
def cpuSteps : Nat → State → Host.Outcome State Fault Refusal
  | 0, s => .next s
  | k + 1, s =>
    match cpuStep s with
    | .next t => cpuSteps k t
    | .fault r => .fault r
    | .refused r => .refused r

/-- The addressing mode gives this bus address and this `page_crossed`, and leaves the state alone. -/
def GivesAddress (o : Operand) (s : State) (ea : Nat) (crossed : Bool) : Prop :=
  locate o s = ⟨.mem (BitVec.ofNat 16 ea), crossed, s⟩

/-- A signed sum that eight bits do not hold. -/
def outsideSigned (n : Int) : Bool := decide (n < -128 ∨ 127 < n)

/-- SBC's result and flags for the operand `m` (R201). -/
def Subtracts (s t : State) (m : Byte) : Prop :=
  t.a.toNat = (s.a.toNat + 256 - m.toNat - (1 - carry s)) % 256 ∧
  FlagsAre s.p t.p ((.c, decide (m.toNat + (1 - carry s) ≤ s.a.toNat)) ::
    (.v, outsideSigned (s.a.toInt - m.toInt - (1 - carry s : Nat))) :: zn t.a)

/-- A compare's flags for a register's value and the operand `m` (R202 to R204). -/
def Compares (s t : State) (reg m : Byte) : Prop :=
  FlagsAre s.p t.p [(.c, decide (m.toNat ≤ reg.toNat)), (.z, decide (reg = m)),
    (.n, decide (128 ≤ (reg.toNat + 256 - m.toNat) % 256))]

/-- A no-operation of this size and cost: PC and the cycle counters move, nothing else does. -/
def Idles (i : Instr) (s : State) (size cycles : Nat) : Prop :=
  Runs i s (s.pc + BitVec.ofNat 16 size) cycles fun t =>
    Keeps s t [] ∧ FlagsAre s.p t.p [] ∧ KeepsMemory s t ∧ t.ppu = s.ppu

/-- R98, rows `00` to `0F`: size, base cycles, extra-on-page-cross flag. -/
def descriptors0x : List Descriptor :=
  [⟨2, 7, false⟩, ⟨2, 6, false⟩, ⟨1, 2, false⟩, ⟨2, 8, false⟩, ⟨2, 3, false⟩, ⟨2, 3, false⟩, ⟨2, 5, false⟩, ⟨2, 5, false⟩,
   ⟨1, 3, false⟩, ⟨2, 2, false⟩, ⟨1, 2, false⟩, ⟨2, 2, false⟩, ⟨3, 4, false⟩, ⟨3, 4, false⟩, ⟨3, 6, false⟩, ⟨3, 6, false⟩]

/-- R98, rows `10` to `1F`: size, base cycles, extra-on-page-cross flag. -/
def descriptors1x : List Descriptor :=
  [⟨2, 2, false⟩, ⟨2, 5, true⟩, ⟨1, 2, false⟩, ⟨2, 8, false⟩, ⟨2, 4, false⟩, ⟨2, 4, false⟩, ⟨2, 6, false⟩, ⟨2, 6, false⟩,
   ⟨1, 2, false⟩, ⟨3, 4, true⟩, ⟨1, 2, false⟩, ⟨3, 7, false⟩, ⟨3, 4, true⟩, ⟨3, 4, true⟩, ⟨3, 7, false⟩, ⟨3, 7, false⟩]

/-- R98, rows `20` to `2F`: size, base cycles, extra-on-page-cross flag. -/
def descriptors2x : List Descriptor :=
  [⟨3, 6, false⟩, ⟨2, 6, false⟩, ⟨1, 2, false⟩, ⟨2, 8, false⟩, ⟨2, 3, false⟩, ⟨2, 3, false⟩, ⟨2, 5, false⟩, ⟨2, 5, false⟩,
   ⟨1, 4, false⟩, ⟨2, 2, false⟩, ⟨1, 2, false⟩, ⟨2, 2, false⟩, ⟨3, 4, false⟩, ⟨3, 4, false⟩, ⟨3, 6, false⟩, ⟨3, 6, false⟩]

/-- R98, rows `30` to `3F`: size, base cycles, extra-on-page-cross flag. -/
def descriptors3x : List Descriptor :=
  [⟨2, 2, false⟩, ⟨2, 5, true⟩, ⟨1, 2, false⟩, ⟨2, 8, false⟩, ⟨2, 4, false⟩, ⟨2, 4, false⟩, ⟨2, 6, false⟩, ⟨2, 6, false⟩,
   ⟨1, 2, false⟩, ⟨3, 4, true⟩, ⟨1, 2, false⟩, ⟨3, 7, false⟩, ⟨3, 4, true⟩, ⟨3, 4, true⟩, ⟨3, 7, false⟩, ⟨3, 7, false⟩]

/-- R98, rows `40` to `4F`: size, base cycles, extra-on-page-cross flag. -/
def descriptors4x : List Descriptor :=
  [⟨1, 6, false⟩, ⟨2, 6, false⟩, ⟨1, 2, false⟩, ⟨2, 8, false⟩, ⟨2, 3, false⟩, ⟨2, 3, false⟩, ⟨2, 5, false⟩, ⟨2, 5, false⟩,
   ⟨1, 3, false⟩, ⟨2, 2, false⟩, ⟨1, 2, false⟩, ⟨2, 2, false⟩, ⟨3, 3, false⟩, ⟨3, 4, false⟩, ⟨3, 6, false⟩, ⟨3, 6, false⟩]

/-- R98, rows `50` to `5F`: size, base cycles, extra-on-page-cross flag. -/
def descriptors5x : List Descriptor :=
  [⟨2, 2, false⟩, ⟨2, 5, true⟩, ⟨1, 2, false⟩, ⟨2, 8, false⟩, ⟨2, 4, false⟩, ⟨2, 4, false⟩, ⟨2, 6, false⟩, ⟨2, 6, false⟩,
   ⟨1, 2, false⟩, ⟨3, 4, true⟩, ⟨1, 2, false⟩, ⟨3, 7, false⟩, ⟨3, 4, true⟩, ⟨3, 4, true⟩, ⟨3, 7, false⟩, ⟨3, 7, false⟩]

/-- R98, rows `60` to `6F`: size, base cycles, extra-on-page-cross flag. -/
def descriptors6x : List Descriptor :=
  [⟨1, 6, false⟩, ⟨2, 6, false⟩, ⟨1, 2, false⟩, ⟨2, 8, false⟩, ⟨2, 3, false⟩, ⟨2, 3, false⟩, ⟨2, 5, false⟩, ⟨2, 5, false⟩,
   ⟨1, 4, false⟩, ⟨2, 2, false⟩, ⟨1, 2, false⟩, ⟨2, 2, false⟩, ⟨3, 5, false⟩, ⟨3, 4, false⟩, ⟨3, 6, false⟩, ⟨3, 6, false⟩]

/-- R98, rows `70` to `7F`: size, base cycles, extra-on-page-cross flag. -/
def descriptors7x : List Descriptor :=
  [⟨2, 2, false⟩, ⟨2, 5, true⟩, ⟨1, 2, false⟩, ⟨2, 8, false⟩, ⟨2, 4, false⟩, ⟨2, 4, false⟩, ⟨2, 6, false⟩, ⟨2, 6, false⟩,
   ⟨1, 2, false⟩, ⟨3, 4, true⟩, ⟨1, 2, false⟩, ⟨3, 7, false⟩, ⟨3, 4, true⟩, ⟨3, 4, true⟩, ⟨3, 7, false⟩, ⟨3, 7, false⟩]

/-- R98, rows `80` to `8F`: size, base cycles, extra-on-page-cross flag. -/
def descriptors8x : List Descriptor :=
  [⟨2, 2, false⟩, ⟨2, 6, false⟩, ⟨2, 2, false⟩, ⟨2, 6, false⟩, ⟨2, 3, false⟩, ⟨2, 3, false⟩, ⟨2, 3, false⟩, ⟨2, 3, false⟩,
   ⟨1, 2, false⟩, ⟨2, 2, false⟩, ⟨1, 2, false⟩, ⟨2, 2, false⟩, ⟨3, 4, false⟩, ⟨3, 4, false⟩, ⟨3, 4, false⟩, ⟨3, 4, false⟩]

/-- R98, rows `90` to `9F`: size, base cycles, extra-on-page-cross flag. -/
def descriptors9x : List Descriptor :=
  [⟨2, 2, false⟩, ⟨2, 6, false⟩, ⟨1, 2, false⟩, ⟨2, 6, false⟩, ⟨2, 4, false⟩, ⟨2, 4, false⟩, ⟨2, 4, false⟩, ⟨2, 4, false⟩,
   ⟨1, 2, false⟩, ⟨3, 5, false⟩, ⟨1, 2, false⟩, ⟨3, 5, false⟩, ⟨3, 5, false⟩, ⟨3, 5, false⟩, ⟨3, 5, false⟩, ⟨3, 5, false⟩]

/-- R98, rows `A0` to `AF`: size, base cycles, extra-on-page-cross flag. -/
def descriptorsAx : List Descriptor :=
  [⟨2, 2, false⟩, ⟨2, 6, false⟩, ⟨2, 2, false⟩, ⟨2, 6, false⟩, ⟨2, 3, false⟩, ⟨2, 3, false⟩, ⟨2, 3, false⟩, ⟨2, 3, false⟩,
   ⟨1, 2, false⟩, ⟨2, 2, false⟩, ⟨1, 2, false⟩, ⟨2, 2, false⟩, ⟨3, 4, false⟩, ⟨3, 4, false⟩, ⟨3, 4, false⟩, ⟨3, 4, false⟩]

/-- R98, rows `B0` to `BF`: size, base cycles, extra-on-page-cross flag. -/
def descriptorsBx : List Descriptor :=
  [⟨2, 2, false⟩, ⟨2, 5, true⟩, ⟨1, 2, false⟩, ⟨2, 5, true⟩, ⟨2, 4, false⟩, ⟨2, 4, false⟩, ⟨2, 4, false⟩, ⟨2, 4, false⟩,
   ⟨1, 2, false⟩, ⟨3, 4, true⟩, ⟨1, 2, false⟩, ⟨3, 4, true⟩, ⟨3, 4, true⟩, ⟨3, 4, true⟩, ⟨3, 4, true⟩, ⟨3, 4, true⟩]

/-- R98, rows `C0` to `CF`: size, base cycles, extra-on-page-cross flag. -/
def descriptorsCx : List Descriptor :=
  [⟨2, 2, false⟩, ⟨2, 6, false⟩, ⟨2, 2, false⟩, ⟨2, 8, false⟩, ⟨2, 3, false⟩, ⟨2, 3, false⟩, ⟨2, 5, false⟩, ⟨2, 5, false⟩,
   ⟨1, 2, false⟩, ⟨2, 2, false⟩, ⟨1, 2, false⟩, ⟨2, 2, false⟩, ⟨3, 4, false⟩, ⟨3, 4, false⟩, ⟨3, 6, false⟩, ⟨3, 6, false⟩]

/-- R98, rows `D0` to `DF`: size, base cycles, extra-on-page-cross flag. -/
def descriptorsDx : List Descriptor :=
  [⟨2, 2, false⟩, ⟨2, 5, true⟩, ⟨1, 2, false⟩, ⟨2, 8, false⟩, ⟨2, 4, false⟩, ⟨2, 4, false⟩, ⟨2, 6, false⟩, ⟨2, 6, false⟩,
   ⟨1, 2, false⟩, ⟨3, 4, true⟩, ⟨1, 2, false⟩, ⟨3, 7, false⟩, ⟨3, 4, true⟩, ⟨3, 4, true⟩, ⟨3, 7, false⟩, ⟨3, 7, false⟩]

/-- R98, rows `E0` to `EF`: size, base cycles, extra-on-page-cross flag. -/
def descriptorsEx : List Descriptor :=
  [⟨2, 2, false⟩, ⟨2, 6, false⟩, ⟨2, 2, false⟩, ⟨2, 8, false⟩, ⟨2, 3, false⟩, ⟨2, 3, false⟩, ⟨2, 5, false⟩, ⟨2, 5, false⟩,
   ⟨1, 2, false⟩, ⟨2, 2, false⟩, ⟨1, 2, false⟩, ⟨2, 2, false⟩, ⟨3, 4, false⟩, ⟨3, 4, false⟩, ⟨3, 6, false⟩, ⟨3, 6, false⟩]

/-- R98, rows `F0` to `FF`: size, base cycles, extra-on-page-cross flag. -/
def descriptorsFx : List Descriptor :=
  [⟨2, 2, false⟩, ⟨2, 5, true⟩, ⟨1, 2, false⟩, ⟨2, 8, false⟩, ⟨2, 4, false⟩, ⟨2, 4, false⟩, ⟨2, 6, false⟩, ⟨2, 6, false⟩,
   ⟨1, 2, false⟩, ⟨3, 4, true⟩, ⟨1, 2, false⟩, ⟨3, 7, false⟩, ⟨3, 4, true⟩, ⟨3, 4, true⟩, ⟨3, 7, false⟩, ⟨3, 7, false⟩]

/-- The size, cycles and x columns of R98, in opcode order, all 256 rows (BRK with `BRK_PAD` = 1). -/
def descriptors : List Descriptor :=
  descriptors0x ++ descriptors1x ++ descriptors2x ++ descriptors3x ++ descriptors4x ++ descriptors5x ++
  descriptors6x ++ descriptors7x ++ descriptors8x ++ descriptors9x ++ descriptorsAx ++ descriptorsBx ++
  descriptorsCx ++ descriptorsDx ++ descriptorsEx ++ descriptorsFx

/-- The instruction is a conditional branch. -/
def isBranch : Instr → Bool
  | .bcc _ | .bcs _ | .beq _ | .bne _ | .bmi _ | .bpl _ | .bvc _ | .bvs _ => true
  | _ => false

/-- The instruction's body applies `set_zn` (R141): the loads, PLA, the transfers but TXS, logic, shifts, ADC, SBC, the
compares, the increments and decrements, and the stable undocumented opcodes that end in one of these. -/
def appliesSetZn : Instr → Bool
  | .lda _ | .ldx _ | .ldy _ | .tax | .tay | .txa | .tya | .tsx | .pla => true
  | .and _ | .ora _ | .eor _ | .asl _ | .lsr _ | .rol _ | .ror _ => true
  | .adc _ | .sbc _ | .cmp _ | .cpx _ | .cpy _ | .inc _ | .dec _ | .inx | .dex | .iny | .dey => true
  | .slo _ | .rla _ | .sre _ | .rra _ | .lax _ | .dcp _ | .isc _ => true
  | .anc _ _ | .alr _ | .arr _ | .axs _ | .las _ | .sbcUndoc _ => true
  | _ => false

/-- Memory shows at this address a status byte with this B and with U = 1. -/
def StatusAt (t : State) (a : Addr) (b : Bool) : Prop :=
  ∃ v, t.byteAt a = some v ∧ getFlag .b v = b ∧ getFlag .u v = true

end Sys2Proof.Claims

open Sys2Proof Sys2Proof.Machine Sys2Proof.Claims

/-- Launching a legal cartridge gives the power-on state; an illegal length is refused. For launch parameters whose
prg_len is a positive multiple of 16384, launch answers the state of the power-on table: A, X, Y 0, SP FD, P 24,
PC the little-endian word PRG shows at FFFC, no cycles, RAM all zero, the PPU interface zero with its own state
ppu_init, no ticks, the parameters themselves, nothing scheduled. For any other prg_len launch is refused. Rests
on decisions D9, D10, D11, D29 of the spec. [derived: 10_state.md section 11, 70_reset_and_hazards.md sections 1
and 4] -/
def Obligations.LaunchGivesThePowerOnState : Prop :=
  ∀ l : Launch,
    (l.prgLen ≠ 0 → l.prgLen % 16384 = 0 →
      ∃ t, launch l = .next t ∧ t.a = 0x00 ∧ t.x = 0x00 ∧ t.y = 0x00 ∧ t.sp = 0xFD ∧ t.p = 0x24 ∧
        t.pc = word (l.prg.read (0x7FFD % l.prgLen)) (l.prg.read (0x7FFC % l.prgLen)) ∧
        t.cyclesRemaining = 0 ∧ t.totalCycles = 0 ∧ (∀ b, b.toNat ≤ 0x1FFF → t.byteAt b = some 0x00) ∧
        t.ppu.ctrl = 0 ∧ t.ppu.mask = 0 ∧ t.ppu.status = 0 ∧ t.ppu.dataBuffer = 0 ∧ t.ppu.addrLatch = false ∧
        t.ppu.vramAddr = 0 ∧ t.ppu.nmiPending = false ∧ t.ppu.internal = Config.ppuInit ∧
        t.masterTicks = 0 ∧ t.launch = l ∧ t.schedule = []) ∧
    (l.prgLen = 0 ∨ l.prgLen % 16384 ≠ 0 → launch l = .refused .illegalPrgLength)

/-- reset() sets A, X, Y, SP, P, PC and cycles_remaining and nothing else. cpuReset gives A = X = Y = 0, SP = FD, P
= 24, PC = the little-endian word PRG shows at FFFC and FFFD, cycles_remaining = 0; every other part of the
state is as before (nothing is pushed, total_cycles, RAM, the PPU and the ticks are kept). Rests on decisions
D10, D34 of the spec. [derived: 60_exceptions.md section 2, 10_state.md section 11] -/
def Obligations.ExternalResetSetsSevenRegistersOnly : Prop :=
  ∀ s : State,
    cpuReset s =
      { s with
        a := 0x00, x := 0x00, y := 0x00, sp := 0xFD, p := 0x24
        pc := word (s.launch.prg.read (0x7FFD % s.launch.prgLen)) (s.launch.prg.read (0x7FFC % s.launch.prgLen))
        cyclesRemaining := 0 }

/-- A step at an instruction boundary on a third tick runs the instruction decoded from the bytes at PC. When no
host call is due, the coming tick is a third one, the CPU is at a boundary, and the bytes RAM or PRG shows from
PC on are exactly the bytes an instruction decodes from, step is exec of that instruction on the state after the
PPU dot, then the NMI sample. The same for bytes read from anywhere: step is exec of what fetch reads. [derived:
40_execution_and_addressing.md section 1, 60_exceptions.md section 3] -/
def Obligations.StepRunsTheDecodedInstruction : Prop :=
  ∀ s : State, (∀ e ∈ s.schedule, s.masterTicks < e.1) → s.masterTicks % 3 = 2 → s.AtBoundary →
    step s = afterCpuStep (exec (fetch (dot s)).1 (fetch (dot s)).2) ∧
    ∀ (bytes : List Byte) (i : Instr), decode bytes = .ok i → bytes.length ≤ (row (bytes.headD 0)).reads + 1 →
      (∀ (k : Nat) (h : k < bytes.length), s.byteAt (s.pc + BitVec.ofNat 16 k) = some bytes[k]) →
      step s = afterCpuStep (exec i (dot s))

/-- Fetching reads the opcode at PC and then its operand bytes in increasing address order. fetch reads the opcode
byte by an ordinary bus read at PC, then the operand bytes the row reads (0, 1 or 2) at PC + 1 and PC + 2, each
from the state the read before left, and gives the instruction the decoder gives for those bytes and the state
after the last read. That fetches are ordinary reads is decision D30 of the spec. Two things are the model's
choice: that an immediate byte is read by the fetch, not by the body (log entry 13), and that a byte the machine
never reads (the padding byte of BRK, the immediate byte of the NOPs, XAA and LXA) is no operand byte of its row
(log entry 12). [derived: 40_execution_and_addressing.md sections 1 and 6, 30_encoding.md section 2,
notes/assumptions/12.md, notes/assumptions/13.md] -/
def Obligations.FetchDecodesTheBytesItReadsInOrder : Prop :=
  ∀ s : State,
    let op := rd s.pc s
    let lo := rd (s.pc + 1) op.2
    let hi := rd (s.pc + 2) lo.2
    ((row op.1).reads = 0 ∧ decode [op.1] = .ok (fetch s).1 ∧ (fetch s).2 = op.2) ∨
    ((row op.1).reads = 1 ∧ decode [op.1, lo.1] = .ok (fetch s).1 ∧ (fetch s).2 = lo.2) ∨
    ((row op.1).reads = 2 ∧ decode [op.1, lo.1, hi.1] = .ok (fetch s).1 ∧ (fetch s).2 = hi.2)

/-- The owed stall steps change nothing but cycles_remaining, report not-yet-complete, and end at the boundary.
While cycles_remaining is above 0 a CPU step decrements it and changes nothing else, and the call reports
instruction-not-yet-complete; so from a state that owes k stall cycles, k CPU steps give the same state with
cycles_remaining 0. [derived: 40_execution_and_addressing.md sections 1 and 7] -/
def Obligations.StallStepsOnlyCountDownToTheBoundary : Prop :=
  (∀ s : State, 0 < s.cyclesRemaining →
    cpuStep s = .next { s with cyclesRemaining := s.cyclesRemaining - 1 } ∧
    (cpuCall s).report = .instructionNotYetComplete) ∧
  ∀ s : State, cpuSteps s.cyclesRemaining s = .next { s with cyclesRemaining := 0 }

/-- A tick that is not a third one advances the PPU and the tick count only. When no host call is due and the coming
tick is not a multiple of 3, step gives the state with one more master tick and the PPU after exactly one
PpuStep; registers, RAM and everything else are unchanged, and of the PPU the latches ctrl, mask, data_buffer
and addr_latch are unchanged. The phase of the CPU step is decision D35 of the spec. [derived: 60_exceptions.md
sections 3 and 9] -/
def Obligations.OtherTicksRunOnlyThePpu : Prop :=
  ∀ s : State, (∀ e ∈ s.schedule, s.masterTicks < e.1) → s.masterTicks % 3 ≠ 2 →
    ∃ t, step s = .next t ∧ t = { s with ppu := ppuStep s.ppu, masterTicks := s.masterTicks + 1 } ∧
      t.ppu.ctrl = s.ppu.ctrl ∧ t.ppu.mask = s.ppu.mask ∧ t.ppu.dataBuffer = s.ppu.dataBuffer ∧
      t.ppu.addrLatch = s.ppu.addrLatch

/-- PpuStep sets the pending NMI exactly on entering vblank with the enable set, and keeps the CPU-side latches. One
PPU dot keeps ctrl, mask, addr_latch and data_buffer; the NMI flag after it is set if and only if it was set
before or this dot enters vblank while ctrl bit 7 is 1; the vblank bit of status after it is set if and only if
this dot enters vblank or the own state of the PPU leaves it set. Which dots enter vblank, and the status
otherwise, are free (decision D36 of the spec, log entry 6). [derived: 60_exceptions.md section 9,
notes/assumptions/6.md] -/
def Obligations.PpuDotKeepsItsContract : Prop :=
  ∀ u : Ppu,
    (ppuStep u).ctrl = u.ctrl ∧ (ppuStep u).mask = u.mask ∧ (ppuStep u).addrLatch = u.addrLatch ∧
    (ppuStep u).dataBuffer = u.dataBuffer ∧
    ((ppuStep u).nmiPending = true ↔
      u.nmiPending = true ∨ (Config.ppuEntersVblank u = true ∧ 128 ≤ u.ctrl.toNat)) ∧
    (128 ≤ (ppuStep u).status.toNat ↔
      Config.ppuEntersVblank u = true ∨ 128 ≤ (Config.ppuStatusAfter u).toNat)

/-- On a third tick the NMI flag is sampled after the CPU step, delivered if set, and cleared. When no host call is
due and the coming tick is a third one, step runs the CPU step on the state after the dot; if that leaves the
NMI flag clear the result is that state, if it leaves the flag set the result is NMI entry from that state with
the flag cleared. Either way the flag is clear after the step. [derived: 60_exceptions.md section 3] -/
def Obligations.NmiIsSampledAfterTheCpuStep : Prop :=
  ∀ s : State, (∀ e ∈ s.schedule, s.masterTicks < e.1) → s.masterTicks % 3 = 2 →
    ∀ u, cpuStep (dot s) = .next u →
      ∃ t, step s = .next t ∧ t.ppu.nmiPending = false ∧
        (u.ppu.nmiPending = false → t = u) ∧
        (u.ppu.nmiPending = true → t = { nmi u with ppu := { u.ppu with nmiPending := false } })

/-- A host call that is due is made before the coming tick. When the first scheduled call is due and no later one
is, step makes that call (irq or reset) and then the tick, with the rest still scheduled. The schedule is the
model's own form of the environment parameter I9 (log entry 14). [derived: 92_eei_decisions.md section 3 (D20),
93_implementation_defined.md section 1 (I9), notes/assumptions/14.md] -/
def Obligations.ScheduledHostCallRunsInItsGap : Prop :=
  ∀ (s : State) (n : Nat) (c : HostCall) (rest : List (Nat × HostCall)),
    s.schedule = (n, c) :: rest → n ≤ s.masterTicks → (∀ e ∈ rest, s.masterTicks < e.1) →
      (c = .irq → step s = tick ((irq s).setSchedule rest)) ∧
      (c = .reset → step s = tick ((cpuReset s).setSchedule rest))

/-- The NMI flag is set only by a vblank edge with the enable set; the System Clock turns a set flag into one NMI
and clears it. A PPU dot sets the flag exactly when it enters vblank with ctrl bit 7 set and never clears it, so
two edges before a sample leave one flag; the sample does nothing while the flag is clear, and with the flag set
runs nmi() once and clears the flag, so at most one NMI is taken per edge; no instruction (a read of 2002 and a
write of 2000 included), no irq() and no reset() changes it. [stated: R309] -/
def Obligations.OnlyThePpuEdgeAndTheClockMoveThePendingNmi : Prop :=
  (∀ u : Ppu, (ppuStep u).nmiPending =
    (u.nmiPending || (Config.ppuEntersVblank u && decide (128 ≤ u.ctrl.toNat)))) ∧
  (∀ s : State, (s.ppu.nmiPending = false → deliverNmi s = s) ∧
    (s.ppu.nmiPending = true → deliverNmi s = { nmi s with ppu := { s.ppu with nmiPending := false } })) ∧
  (∀ s : State, (deliverNmi s).ppu.nmiPending = false) ∧
  (∀ (i : Instr) (s t : State), exec i s = .next t → t.ppu.nmiPending = s.ppu.nmiPending) ∧
  (∀ s : State, (irq s).ppu.nmiPending = s.ppu.nmiPending ∧ (cpuReset s).ppu.nmiPending = s.ppu.nmiPending)

/-- NMI entry pushes PC and P with I set, loads PC from FFFA, charges 8 cycles. nmi() pushes the high byte of PC,
its low byte and the status byte with I = 1, B = 0, U = 1, which is also the live P afterwards; SP drops by 3;
PC is the little-endian word at FFFA; total_cycles grows by 8; cycles_remaining is 7 whatever was owed (decision
D22 of the spec); A, X, Y, all other memory and the PPU are unchanged. [derived: 60_exceptions.md section 2] -/
def Obligations.NmiEntrySavesPcAndStatus : Prop :=
  ∀ s : State,
    EntersInterrupt s (nmi s) s.pc 0xFFFA (nmi s).p ∧
    FlagsAre s.p (nmi s).p [(.i, true), (.b, false), (.u, true)] ∧
    (nmi s).totalCycles = s.totalCycles + 8 ∧ (nmi s).cyclesRemaining = 7

/-- IRQ with I set changes nothing; with I clear it enters through FFFE for 7 cycles. irq() with I = 1 changes
nothing at all (the request is not latched, decision D21 of the spec); with I = 0 it pushes PC and the status
byte with I = 1, B = 0, U = 1, sets PC to the little-endian word at FFFE, adds 7 to total_cycles and sets
cycles_remaining to 6. [derived: 60_exceptions.md section 2] -/
def Obligations.IrqIsDroppedOrEntered : Prop :=
  ∀ s : State,
    (s.flag .i = true → irq s = s) ∧
    (s.flag .i = false →
      EntersInterrupt s (irq s) s.pc 0xFFFE (irq s).p ∧
      FlagsAre s.p (irq s).p [(.i, true), (.b, false), (.u, true)] ∧
      (irq s).totalCycles = s.totalCycles + 7 ∧ (irq s).cyclesRemaining = 6)

/-- BRK pushes the address past its padding and P with B set, then sets I and loads PC from FFFE. BRK completes from
every state, charging 7 cycles: it pushes pc0 + 1 + BRK_PAD and the status byte with B = 1, U = 1 and the old I,
sets I in the live P and nothing else there, and sets PC to the little-endian word at FFFE; A, X, Y, all other
memory and the PPU are unchanged. BRK_PAD is decision D4 of the spec. [derived:
44_branch_jump_bit_flag_brk_rti_nop.md section 5, 60_exceptions.md section 2] -/
def Obligations.BrkEntersThroughTheIrqVector : Prop :=
  ∀ s : State,
    ∃ pushed, FlagsAre s.p pushed [(.b, true), (.u, true)] ∧
      Runs .brk s (prgWord s 0xFFFE) 7 fun t =>
        EntersInterrupt s t (s.pc + 1 + BitVec.ofNat 16 s.launch.brkPad.val) 0xFFFE pushed ∧
        FlagsAre s.p t.p [(.i, true)]

/-- RTI pulls P (B forced 0, U forced 1) and then PC, with no +1. RTI completes from every state in 6 cycles: the
flags come from the byte at SP + 1 with B = 0 and U = 1, PC is the word whose low byte stands at SP + 2 and high
byte at SP + 3, SP rises by 3; A, X, Y, memory and the PPU are unchanged. [derived:
44_branch_jump_bit_flag_brk_rti_nop.md section 5, 60_exceptions.md section 5] -/
def Obligations.RtiRestoresPThenPc : Prop :=
  ∀ s : State,
    Runs .rti s (word (stackByte s 3) (stackByte s 2)) 6 fun t =>
      FlagsAre (stackByte s 1) t.p [(.b, false), (.u, true)] ∧ t.sp = s.sp + 3 ∧
      Keeps s t [.sp] ∧ KeepsMemory s t ∧ t.ppu = s.ppu

/-- RTI right after an entry returns to the saved PC and flags; after NMI or IRQ with I = 1, after BRK with the old
I. From a state whose RAM list is in canonical form, RTI run on the state an entry leaves restores C, Z, D, V, N
and the PC that was pushed, and SP; the restored I is 1 after NMI and after a taken IRQ, and the old I after
BRK. B is 0 and U is 1. [stated: R312] -/
def Obligations.RtiUndoesAnInterruptEntry : Prop :=
  ∀ s : State, s.ram.wf = true →
    (Runs .rti (nmi s) s.pc 6 fun t =>
      FlagsAre s.p t.p [(.i, true), (.b, false), (.u, true)] ∧ t.sp = s.sp) ∧
    (s.flag .i = false → Runs .rti (irq s) s.pc 6 fun t =>
      FlagsAre s.p t.p [(.i, true), (.b, false), (.u, true)] ∧ t.sp = s.sp) ∧
    (Runs .rti (brkEntry s) s.pc 6 fun t => FlagsAre s.p t.p [(.b, false), (.u, true)] ∧ t.sp = s.sp) ∧
    (∀ r : State, Runs .rti r (word (stackByte r 3) (stackByte r 2)) 6 fun t => t.p = stackByte r 1 &&& 0xEF ||| 0x20)

/-- The invariant holds in the reset state. State.reset satisfies the invariant: U = 1 and B = 0 in the live P, RAM
and PRG lists in canonical form and within their sizes, a legal prg_len, cycles_remaining at most 7. The empty
PRG of State.reset is the model's choice (log entries 3 and 4). [derived: 10_state.md sections 4, 5, 7 and 11,
notes/assumptions/3.md, notes/assumptions/4.md] -/
def Obligations.PowerOnStateIsGood : Prop :=
  State.reset.Inv

/-- Every step from a good state gives a good state. From every state that satisfies the invariant (U = 1 and B = 0
in the live P; RAM and PRG lists in canonical form and within their sizes; a legal prg_len; cycles_remaining at
most 7), every next state of step satisfies it, for every schedule of host calls and every behaviour of the PPU.
[derived: 10_state.md sections 4, 5 and 7, 40_execution_and_addressing.md section 7] -/
def Obligations.EveryStepKeepsTheInvariant : Prop :=
  ∀ s t : State, s.Inv → step s = .next t → t.Inv

/-- The live P has U = 1 and B = 0 after reset, at every boundary and after interrupt entry; a pushed status has B =
1 from BRK and PHP only. U = 1 and B = 0 hold in the live P after reset(), after nmi() and, if they held before,
after irq(), after every instruction and after every step. With RAM in canonical form, the status byte that PHP
pushes at the old SP and the one BRK pushes two below it have B = 1, those that nmi() and a taken irq() push
there have B = 0, and all of them have U = 1. [stated: R24] -/
def Obligations.LivePHasUSetAndBClear : Prop :=
  (∀ s : State, UAndB (cpuReset s) ∧ UAndB (nmi s)) ∧
  (∀ s : State, UAndB s → UAndB (irq s)) ∧
  (∀ (i : Instr) (s t : State), UAndB s → exec i s = .next t → UAndB t) ∧
  (∀ s t : State, UAndB s → step s = .next t → UAndB t) ∧
  ∀ s : State, s.ram.wf = true →
    (∃ t, exec .php s = .next t ∧ StatusAt t (stackAddr s.sp) true) ∧
    (∃ t, exec .brk s = .next t ∧ StatusAt t (stackAddr (s.sp - 2)) true) ∧
    StatusAt (nmi s) (stackAddr (s.sp - 2)) false ∧
    (s.flag .i = false → StatusAt (irq s) (stackAddr (s.sp - 2)) false)

/-- Every byte sequence of three bytes decodes, every instruction and every step completes. For every opcode byte
and operand bytes the decoder gives an instruction; exec of every instruction from every state answers a next
state; step from every state answers a next state. Nothing faults, traps on an encoding or stops the machine.
[stated: R8] -/
def Obligations.NothingEverFaults : Prop :=
  (∀ op lo hi : Byte, ∃ i, decode [op, lo, hi] = .ok i) ∧
  (∀ (i : Instr) (s : State), ∃ t, exec i s = .next t) ∧
  (∀ s : State, ∃ t, step s = .next t)

/-- No run changes PRG or any launch parameter. However many steps the machine runs, from any state, the PRG bytes,
prg_len, BRK_PAD and BRANCH_PAGE_REF are as at the start: the cartridge contributes no mutable state. [stated:
R31] -/
def Obligations.RunsKeepPrgAndTheLaunchParameters : Prop :=
  ∀ (n : Nat) (s t : State), Sys2Proof.core.run n s = .next t → t.launch = s.launch

/-- After N steps the machine has made N master ticks, and the CPU stepped on the third ones. A run of N steps
raises master_ticks by N (one PPU dot each); and three steps in a row, from a state between CPU cycles
(master_ticks a multiple of 3) with no host call scheduled, are two dots, one CPU step on the state after the
third dot, and the NMI sample. That one step of the machine is one master tick is the model's inference (log
entry 1). The phase is decision D35 of the spec. [derived: 60_exceptions.md section 3, 95_test_vectors.md
section 2 (S7), notes/assumptions/1.md] -/
def Obligations.RunsCountOneTickPerStep : Prop :=
  (∀ (n : Nat) (s t : State), Sys2Proof.core.run n s = .next t → t.masterTicks = s.masterTicks + n) ∧
  ∀ s : State, s.schedule = [] → s.masterTicks % 3 = 0 →
    Sys2Proof.core.run 3 s = afterCpuStep (cpuStep (dot (dot (dot s))))

/-- Each flag is changed only by the instructions the flag table lists. If an instruction changes Z or N it is one
whose body applies set_zn, or BIT, PLP or RTI; B or U: PLP or RTI, which leave B = 0 and U = 1; I: it is SEI,
CLI, PLP, RTI or BRK; D: SED, CLD, PLP, RTI; V: ADC, SBC, BIT, CLV, PLP, RTI, RRA, ISC, ARR, SBC EB; C: ADC,
SBC, CMP, CPX, CPY, ASL, LSR, ROL, ROR, CLC, SEC, PLP, RTI, SLO, RLA, SRE, RRA, DCP, ISC, ANC, ALR, ARR, AXS,
SBC EB. The undocumented entries of the table are the spec's own derivation. [derived: 10_state.md section 4] -/
def Obligations.OnlyTheListedInstructionsWriteAFlag : Prop :=
  ∀ (i : Instr) (s t : State), exec i s = .next t →
    (t.flag .z ≠ s.flag .z → appliesSetZn i = true ∨ (∃ o, i = .bit o) ∨ i = .plp ∨ i = .rti) ∧
    (t.flag .n ≠ s.flag .n → appliesSetZn i = true ∨ (∃ o, i = .bit o) ∨ i = .plp ∨ i = .rti) ∧
    (t.flag .b ≠ s.flag .b → i = .plp ∨ i = .rti) ∧
    (t.flag .u ≠ s.flag .u → i = .plp ∨ i = .rti) ∧
    (i = .plp ∨ i = .rti → t.flag .b = false ∧ t.flag .u = true) ∧
    (t.flag .i ≠ s.flag .i → i = .sei ∨ i = .cli ∨ i = .plp ∨ i = .rti ∨ i = .brk) ∧
    (t.flag .d ≠ s.flag .d → i = .sed ∨ i = .cld ∨ i = .plp ∨ i = .rti) ∧
    (t.flag .v ≠ s.flag .v →
      i = .clv ∨ i = .plp ∨ i = .rti ∨ (∃ v, i = .arr v ∨ i = .sbcUndoc v) ∨
      ∃ o, i = .adc o ∨ i = .sbc o ∨ i = .bit o ∨ i = .rra o ∨ i = .isc o) ∧
    (t.flag .c ≠ s.flag .c →
      i = .clc ∨ i = .sec ∨ i = .plp ∨ i = .rti ∨
      (∃ v, i = .alr v ∨ i = .arr v ∨ i = .axs v ∨ i = .sbcUndoc v ∨ ∃ k, i = .anc k v) ∨
      ∃ o, i = .adc o ∨ i = .sbc o ∨ i = .cmp o ∨ i = .cpx o ∨ i = .cpy o ∨ i = .asl o ∨ i = .lsr o ∨
        i = .rol o ∨ i = .ror o ∨ i = .slo o ∨ i = .rla o ∨ i = .sre o ∨ i = .rra o ∨ i = .dcp o ∨ i = .isc o)

/-- The stack lives at 0100 to 01FF, SP wraps without a trap, and only stack instructions, TXS and LAS write it. The
stack address is 0100 | SP. A push writes the byte at the address SP gives and then decrements SP modulo 256
(from 00 it writes 0100 and leaves FF); a pop increments SP modulo 256 and then reads (from FF it leaves 00 and
reads 0100). Reset sets SP to FD. An instruction that changes SP is PHA, PHP, PLA, PLP, JSR, RTS, BRK, RTI, TXS
or LAS. [stated: R22] -/
def Obligations.StackPointerStaysInPageOneAndWraps : Prop :=
  (∀ sp : Byte, (stackAddr sp).toNat = 0x0100 + sp.toNat) ∧
  (∀ (s : State) (v : Byte), push8 v s = { wr (stackAddr s.sp) v s with sp := s.sp - 1 }) ∧
  (∀ s : State, pop8 s = (s.ram.read (0x0100 + (s.sp + 1).toNat), { s with sp := s.sp + 1 })) ∧
  (∀ (s : State) (v : Byte), s.sp = 0x00 → (push8 v s).sp = 0xFF ∧ (s.ram.wf = true → (push8 v s).byteAt 0x0100 = some v)) ∧
  (∀ s : State, s.sp = 0xFF → (pop8 s).2.sp = 0x00 ∧ some (pop8 s).1 = s.byteAt 0x0100) ∧
  (∀ s : State, (cpuReset s).sp = 0xFD) ∧
  ∀ (i : Instr) (s t : State), exec i s = .next t → t.sp ≠ s.sp →
    i = .pha ∨ i = .php ∨ i = .pla ∨ i = .plp ∨ (∃ w, i = .jsr w ∨ i = .las w) ∨ i = .rts ∨ i = .brk ∨ i = .rti ∨
      i = .txs

/-- Reads and writes go to RAM, the PPU window or the cartridge by address, with the mirrors. Reads: 0000 to 1FFF
give the RAM byte at address mod 2048 and change nothing; 2000 to 3FFF act as the register at 2000 + (address
mod 8); 8000 to FFFF give PRG at (address - 8000) mod prg_len and change nothing; 4000 to 7FFF change nothing
but the model's count of free reads. Writes: 0000 to 1FFF write the RAM byte at address mod 2048; 2000 to 3FFF
act as the register at 2000 + (address mod 8); 4000 to FFFF change nothing. The rule for 4000 to 7FFF is
decision D19 of the spec; the count is log entry 7. [derived: 20_memory.md sections 1, 2 and 10,
notes/assumptions/7.md] -/
def Obligations.BusFollowsTheAddressMap : Prop :=
  ∀ (a : Addr) (s : State) (v : Byte),
    (a.toNat ≤ 0x1FFF → rd a s = (s.ram.read (a.toNat % 2048), s) ∧
      wr a v s = { s with ram := s.ram.write (a.toNat % 2048) v }) ∧
    (0x2000 ≤ a.toNat → a.toNat ≤ 0x3FFF → rd a s = rd (0x2000 + BitVec.ofNat 16 (a.toNat % 8)) s ∧
      wr a v s = wr (0x2000 + BitVec.ofNat 16 (a.toNat % 8)) v s) ∧
    (0x4000 ≤ a.toNat → a.toNat ≤ 0x7FFF → (rd a s).2 = { s with freeReads := s.freeReads + 1 } ∧ wr a v s = s) ∧
    (0x8000 ≤ a.toNat → rd a s = (s.launch.prg.read ((a.toNat - 0x8000) % s.launch.prgLen), s) ∧ wr a v s = s)

/-- A write through one RAM mirror is read through every other, and no other RAM byte changes. For addresses below
2000 and RAM in canonical form: after a write of v, a bus read through any address equal modulo 2048 gives v,
and a bus read through any other address below 2000 gives what it gave before. [derived: 20_memory.md section 1,
70_reset_and_hazards.md section 3] -/
def Obligations.RamMirrorsNameOneByte : Prop :=
  ∀ (s : State) (a b : Addr) (v : Byte), s.ram.wf = true → a.toNat ≤ 0x1FFF → b.toNat ≤ 0x1FFF →
    (a.toNat % 2048 = b.toNat % 2048 → (rd b (wr a v s)).1 = v) ∧
    (a.toNat % 2048 ≠ b.toNat % 2048 → (rd b (wr a v s)).1 = (rd b s).1)

/-- A PPUSTATUS read returns the old status bits, clears vblank and the address latch, and nothing else. A read of
register index 2, at any of its mirrors, gives the top three status bits joined with the low five of data_buffer
as they were, then clears status bit 7 and addr_latch; no other state changes, the pending NMI included; a
second read finds bit 7 clear. The vblank bit is decision D16 of the spec. [derived: 20_memory.md section 7,
70_reset_and_hazards.md section 3] -/
def Obligations.PpuStatusReadClearsVblankAndLatch : Prop :=
  ∀ (a : Addr) (s : State), 0x2000 ≤ a.toNat → a.toNat ≤ 0x3FFF → a.toNat % 8 = 2 →
    (rd a s).1.toNat = s.ppu.status.toNat / 32 * 32 + s.ppu.dataBuffer.toNat % 32 ∧
    (rd a s).2.ppu.status.toNat = s.ppu.status.toNat % 128 ∧
    (rd a s).2 = { s with ppu := { s.ppu with status := (rd a s).2.ppu.status, addrLatch := false } } ∧
    (rd a (rd a s).2).1.toNat < 128

/-- PPUADDR takes the high byte on odd writes and the low byte on even ones, counted from the last PPUSTATUS read.
After a PPUSTATUS read, the first write of 2006 sets the high byte of vram_addr and keeps the low one, the
second sets the low byte, the third the high byte again; a PPUSTATUS read between the halves restarts the count.
A write of index 6, at any of its mirrors, toggles addr_latch and changes nothing else but vram_addr. Storing
the high byte unmasked is decision D18 of the spec. [derived: 20_memory.md section 7, 70_reset_and_hazards.md
section 3] -/
def Obligations.PpuAddrTakesHighThenLow : Prop :=
  ∀ (s : State) (h l h2 : Byte),
    let s0 := (rd 0x2002 s).2
    let s1 := wr 0x2006 h s0
    let s2 := wr 0x2006 l s1
    let s3 := wr 0x2006 h2 s2
    let s4 := wr 0x2006 h2 (rd 0x2002 s1).2
    s0.ppu.addrLatch = false ∧
    s1.ppu.vramAddr.toNat = 256 * h.toNat + s0.ppu.vramAddr.toNat % 256 ∧ s1.ppu.addrLatch = true ∧
    s2.ppu.vramAddr.toNat = 256 * h.toNat + l.toNat ∧ s2.ppu.addrLatch = false ∧
    s3.ppu.vramAddr.toNat = 256 * h2.toNat + l.toNat ∧ s3.ppu.addrLatch = true ∧
    s4.ppu.vramAddr.toNat = 256 * h2.toNat + s0.ppu.vramAddr.toNat % 256 ∧ s4.ppu.addrLatch = true ∧
    ∀ (a : Addr) (r : State) (v : Byte), 0x2000 ≤ a.toNat → a.toNat ≤ 0x3FFF → a.toNat % 8 = 6 →
      wr a v r =
        { r with
          ppu := { r.ppu with
            vramAddr := BitVec.ofNat 16
              (if r.ppu.addrLatch then r.ppu.vramAddr.toNat / 256 * 256 + v.toNat
               else 256 * v.toNat + r.ppu.vramAddr.toNat % 256)
            addrLatch := !r.ppu.addrLatch } }

/-- A PPUDATA read below 3F00 returns what the previous one fetched; both directions step vram_addr. A read of index
7 returns data_buffer when vram_addr is below 3F00 and the PPU memory byte at once otherwise; it loads
data_buffer from PPU memory at vram_addr and adds 32 or 1 to vram_addr by ctrl bit 2; two reads in a row below
3F00 give on the second the byte at the first address. A write of index 7 writes PPU memory at vram_addr, adds
the same step, and keeps data_buffer. Rests on decisions D15, D17, D18 of the spec; PPU memory itself is free
(log entry 5). [derived: 20_memory.md section 7, notes/assumptions/5.md] -/
def Obligations.PpuDataIsBufferedByOneRead : Prop :=
  ∀ (a : Addr) (s : State) (v : Byte), 0x2000 ≤ a.toNat → a.toNat ≤ 0x3FFF → a.toNat % 8 = 7 →
    let u := s.ppu
    let next := (u.vramAddr.toNat + (if u.ctrl.toNat / 4 % 2 = 1 then 32 else 1)) % 65536
    let fetched := Config.ppuMemRead u u.vramAddr
    (rd a s).1 = (if u.vramAddr.toNat < 0x3F00 then u.dataBuffer else fetched) ∧
    (rd a s).2 = { s with ppu := { u with dataBuffer := fetched, vramAddr := BitVec.ofNat 16 next } } ∧
    (next < 0x3F00 → (rd a (rd a s).2).1 = fetched) ∧
    wr a v s =
      { s with ppu := { u with internal := Config.ppuMemWrite u u.vramAddr v, vramAddr := BitVec.ofNat 16 next } }

/-- PPUCTRL and PPUMASK latch, indexes 3 to 5 reach only the PPU's own state, 2002 ignores writes, the rest read as
any value. A write of index 0 sets ctrl and of index 1 sets mask and nothing else; of index 3, 4, 5 only the
PPU's own state; of index 2 nothing. A read of index 0, 1, 3, 4, 5 or 6 changes nothing but the model's count of
free reads (its value is free). Rests on decisions D12, D13, D14 of the spec and log entry 7. [derived:
20_memory.md section 7, notes/assumptions/7.md] -/
def Obligations.OtherPpuRegistersLatchOrIgnore : Prop :=
  ∀ (a : Addr) (s : State) (v : Byte), 0x2000 ≤ a.toNat → a.toNat ≤ 0x3FFF →
    (a.toNat % 8 = 0 → wr a v s = { s with ppu := { s.ppu with ctrl := v } }) ∧
    (a.toNat % 8 = 1 → wr a v s = { s with ppu := { s.ppu with mask := v } }) ∧
    (a.toNat % 8 = 2 → wr a v s = s) ∧
    (a.toNat % 8 = 3 ∨ a.toNat % 8 = 4 ∨ a.toNat % 8 = 5 →
      wr a v s = { s with ppu := { s.ppu with internal := (wr a v s).ppu.internal } }) ∧
    (a.toNat % 8 ≠ 2 → a.toNat % 8 ≠ 7 → (rd a s).2 = { s with freeReads := s.freeReads + 1 })

/-- Two byte arrays in canonical form that read the same everywhere are the same list. For byte arrays in the
model's canonical form (indices strictly rising, no zero byte listed): if every index reads the same, the lists
are equal. The form is the model's own (log entry 21), not the spec's. [derived: notes/assumptions/21.md] -/
def Obligations.CanonicalMemoriesWithEqualBytesAreEqual : Prop :=
  ∀ m n : Memory, m.wf = true → n.wf = true → (∀ i, m.read i = n.read i) → m = n

/-- set_zn sets Z on zero, N to bit 7, and changes nothing else. set_zn(v) leaves Z = 1 exactly when v is 0 and N =
bit 7 of v, and changes no other flag and no other part of the state; so 00 sets Z and clears N, 80 clears Z and
sets N, 7F clears both. [stated: R141] -/
def Obligations.SetZnWritesZAndNOnly : Prop :=
  (∀ (v : Byte) (s : State), FlagsAre s.p (s.setZN v).p (zn v) ∧ s.setZN v = { s with p := (s.setZN v).p }) ∧
  ∀ s : State,
    (s.setZN 0x00).flag .z = true ∧ (s.setZN 0x00).flag .n = false ∧
    (s.setZN 0x80).flag .z = false ∧ (s.setZN 0x80).flag .n = true ∧
    (s.setZN 0x7F).flag .z = false ∧ (s.setZN 0x7F).flag .n = false

/-- pop8 undoes push8 and pop16 undoes push16, across the wrap of SP too; words lie low byte first. With RAM in
canonical form: pop8 after push8 of v gives v and the state after the push with SP as it was; pop16 after push16
of w gives w and SP as it was; push16 leaves the high byte at the address of the old SP, the low byte at the one
below (in page 1), and SP two lower. For every SP. [stated: R144, R145] -/
def Obligations.StackRoundTrips : Prop :=
  ∀ (s : State) (v : Byte) (w : Addr), s.ram.wf = true →
    pop8 (push8 v s) = (v, { push8 v s with sp := s.sp }) ∧
    pop16 (push16 w s) = (w, { push16 w s with sp := s.sp }) ∧
    (push16 w s).byteAt (stackAddr s.sp) = some (hiByte w) ∧
    (push16 w s).byteAt (stackAddr (s.sp - 1)) = some (loByte w) ∧
    (push16 w s).sp = s.sp - 2 ∧
    (∀ b, ¬SameCell b (stackAddr s.sp) → ¬SameCell b (stackAddr (s.sp - 1)) → (push16 w s).byteAt b = s.byteAt b)

/-- asl8, lsr8, rol8, ror8 as arithmetic: result and carry-out. asl8 gives 2v mod 256 and carry v[7]; lsr8 gives v /
2 and carry v[0]; rol8 gives 2v mod 256 plus the carry-in and carry v[7]; ror8 gives v / 2 plus 128 times the
carry-in and carry v[0]. [stated: R146, R147, R148, R149] -/
def Obligations.ShiftPrimitivesAreDoublingAndHalving : Prop :=
  ∀ (v : Byte) (cin : Bool),
    let n := v.toNat
    let c := if cin then 1 else 0
    (asl8 v).1.toNat = 2 * n % 256 ∧ (asl8 v).2 = decide (128 ≤ n) ∧
    (lsr8 v).1.toNat = n / 2 ∧ (lsr8 v).2 = decide (n % 2 = 1) ∧
    (rol8 v cin).1.toNat = 2 * n % 256 + c ∧ (rol8 v cin).2 = decide (128 ≤ n) ∧
    (ror8 v cin).1.toNat = n / 2 + 128 * c ∧ (ror8 v cin).2 = decide (n % 2 = 1)

/-- adc8 is the binary sum modulo 256, its carry the unsigned and its V the signed overflow. adc8(a, m, cin) gives
the sum modulo 256, carry exactly when the sum exceeds FF, and V by the bit formula of the rule, which is set
exactly when the signed sum lies outside -128 to 127. [stated: R150] -/
def Obligations.AdcPrimitiveIsBinaryAddition : Prop :=
  ∀ (a m : Byte) (cin : Bool),
    let c : Nat := if cin then 1 else 0
    let t := adc8 a m cin
    t.r.toNat = (a.toNat + m.toNat + c) % 256 ∧
    t.c = decide (0xFF < a.toNat + m.toNat + c) ∧
    t.v = decide (~~~(a ^^^ m) &&& (a ^^^ t.r) &&& 0x80 ≠ 0) ∧
    t.v = decide (a.toInt + m.toInt + c < -128 ∨ 127 < a.toInt + m.toInt + c)

/-- Zero-page sums wrap in page 0, absolute sums modulo 65536, and only the latter report a page cross. Zero Page
gives the operand byte as an address, Zero Page,X and ,Y the sum modulo 256, Absolute the word, Absolute,X and
,Y the sum modulo 65536, with page_crossed exactly when its high byte differs from the word's. The register
state is untouched; no pointer is read. The wrap at FFFF is decision D8 of the spec. [derived:
40_execution_and_addressing.md section 2] -/
def Obligations.DirectAndIndexedAddressing : Prop :=
  ∀ (b : Byte) (w : Addr) (s : State),
    GivesAddress (.zp b) s b.toNat false ∧
    GivesAddress (.zpx b) s ((b.toNat + s.x.toNat) % 256) false ∧
    GivesAddress (.zpy b) s ((b.toNat + s.y.toNat) % 256) false ∧
    GivesAddress (.abs w) s w.toNat false ∧
    GivesAddress (.abx w) s ((w.toNat + s.x.toNat) % 65536)
      (decide ((w.toNat + s.x.toNat) % 65536 / 256 ≠ w.toNat / 256)) ∧
    GivesAddress (.aby w) s ((w.toNat + s.y.toNat) % 65536)
      (decide ((w.toNat + s.y.toNat) % 65536 / 256 ≠ w.toNat / 256))

/-- (Indirect,X) and (Indirect),Y take both pointer bytes from page 0; Indirect keeps the pointer's page.
(Indirect,X) takes the low byte at (b + X) mod 256 and the high byte at (b + X + 1) mod 256; (Indirect),Y takes
its base at b and (b + 1) mod 256 and adds Y modulo 65536, with page_crossed exactly when the high byte changes.
Indirect reads the low byte at the pointer w and then the high byte in the page of w at the next low byte (from
FF at 00), by bus reads in that order. Rests on decisions D8 and D33 of the spec. [derived:
40_execution_and_addressing.md section 2] -/
def Obligations.PointerAddressingWrapsInThePage : Prop :=
  ∀ (b : Byte) (w : Addr) (s : State),
    (let ea := 256 * (s.ram.read ((b.toNat + s.x.toNat + 1) % 256)).toNat + (s.ram.read ((b.toNat + s.x.toNat) % 256)).toNat
     GivesAddress (.izx b) s ea false) ∧
    (let base := 256 * (s.ram.read ((b.toNat + 1) % 256)).toNat + (s.ram.read b.toNat).toNat
     let ea := (base + s.y.toNat) % 65536
     GivesAddress (.izy b) s ea (decide (ea / 256 ≠ base / 256))) ∧
    (let lo := rd w s
     let hi := rd (BitVec.ofNat 16 (w.toNat / 256 * 256 + (w.toNat + 1) % 256)) lo.2
     locate (.ind w) s = ⟨.mem (word hi.1 lo.1), false, hi.2⟩)

/-- An addressing engine changes no register and no memory, and only abx, aby and izy report a page cross. For every
operand form, the engine leaves everything but the PPU interface (Indirect pointers may lie in the window) and
the model's count of free reads as it was; page_crossed is false except in the forms abx, aby and izy; every
form but Accumulator and Immediate gives a bus address. [derived: 40_execution_and_addressing.md sections 2 and
6] -/
def Obligations.EnginesOnlyReadAndOnlyIndexedFormsCross : Prop :=
  ∀ (o : Operand) (s : State),
    (locate o s).state = { s with ppu := (locate o s).state.ppu, freeReads := (locate o s).state.freeReads } ∧
    (o.mode ∉ [Mode.abx, Mode.aby, Mode.izy] → (locate o s).crossed = false) ∧
    (o.mode ∉ [Mode.acc, Mode.imm] → ∃ ea, (locate o s).loc = .mem ea) ∧
    (o.mode ≠ .ind → (locate o s).state = s)

/-- LDA, LDX, LDY and LAX load the operand and set Z and N from it. For every operand form, LDA, LDX, LDY complete
with the register equal to the operand read, LAX with A and X equal to it; Z and N are set from it; no other
register, flag or byte of memory changes, and the PPU changes only as the one read changes it. LAX is the spec's
general knowledge (D25). [derived: 41_load_store_transfer_stack.md section 1, 45_undocumented.md section 2] -/
def Obligations.LoadsPutTheOperandInTheRegister : Prop :=
  ∀ (o : Operand) (s : State),
    (ReadsOperand (.lda o) o s [.a] fun t => t.a = operandOf o s ∧ FlagsAre s.p t.p (zn (operandOf o s))) ∧
    (ReadsOperand (.ldx o) o s [.x] fun t => t.x = operandOf o s ∧ FlagsAre s.p t.p (zn (operandOf o s))) ∧
    (ReadsOperand (.ldy o) o s [.y] fun t => t.y = operandOf o s ∧ FlagsAre s.p t.p (zn (operandOf o s))) ∧
    (ReadsOperand (.lax o) o s [.a, .x] fun t =>
      t.a = operandOf o s ∧ t.x = operandOf o s ∧ FlagsAre s.p t.p (zn (operandOf o s)))

/-- STA, STX, STY and SAX store at the address their form gives and change no register or flag. For every form the
table gives them, STA, STX, STY store A, X, Y and SAX stores A and X, at the address the addressing mode gives,
without reading it: every other byte of memory reads as before, a RAM byte stored to reads as the value, PRG is
unchanged, the PPU changes only as that one write changes it; no register and no flag changes. SAX is the spec's
general knowledge (D25). [derived: 41_load_store_transfer_stack.md section 2, 45_undocumented.md section 2] -/
def Obligations.StoresWriteTheRegisterAtTheAddress : Prop :=
  ∀ (o : Operand) (s : State),
    ((Instr.sta o).wf = true → RunsOn (.sta o) (storeCost o) o s fun t =>
      Keeps s t [] ∧ FlagsAre s.p t.p [] ∧ WritesOperand o s t (locate o s).state s.a) ∧
    ((Instr.stx o).wf = true → RunsOn (.stx o) (storeCost o) o s fun t =>
      Keeps s t [] ∧ FlagsAre s.p t.p [] ∧ WritesOperand o s t (locate o s).state s.x) ∧
    ((Instr.sty o).wf = true → RunsOn (.sty o) (storeCost o) o s fun t =>
      Keeps s t [] ∧ FlagsAre s.p t.p [] ∧ WritesOperand o s t (locate o s).state s.y) ∧
    ((Instr.sax o).wf = true → RunsOn (.sax o) (storeCost o) o s fun t =>
      Keeps s t [] ∧ FlagsAre s.p t.p [] ∧ WritesOperand o s t (locate o s).state (s.a &&& s.x))

/-- TAX, TAY, TXA, TYA, TSX copy and set Z and N; TXS copies and sets no flag. TAX, TAY, TXA, TYA, TSX complete with
the destination equal to the source and Z and N set from it (TSX from the new X); TXS with SP equal to X and no
flag changed; nothing else changes. [derived: 41_load_store_transfer_stack.md section 3] -/
def Obligations.TransfersCopyARegister : Prop :=
  ∀ s : State,
    (RunsInside .tax s fun t => t.x = s.a ∧ Keeps s t [.x] ∧ FlagsAre s.p t.p (zn s.a)) ∧
    (RunsInside .tay s fun t => t.y = s.a ∧ Keeps s t [.y] ∧ FlagsAre s.p t.p (zn s.a)) ∧
    (RunsInside .txa s fun t => t.a = s.x ∧ Keeps s t [.a] ∧ FlagsAre s.p t.p (zn s.x)) ∧
    (RunsInside .tya s fun t => t.a = s.y ∧ Keeps s t [.a] ∧ FlagsAre s.p t.p (zn s.y)) ∧
    (RunsInside .tsx s fun t => t.x = s.sp ∧ Keeps s t [.x] ∧ FlagsAre s.p t.p (zn s.sp)) ∧
    (RunsInside .txs s fun t => t.sp = s.x ∧ Keeps s t [.sp] ∧ FlagsAre s.p t.p [])

/-- PHA pushes A, PHP pushes P with B and U set; the live P does not change. PHA and PHP complete in 3 cycles: the
byte (A, or P with bits 4 and 5 set) is stored at 0100 | SP and at no other address, SP drops by 1, no flag and
no other register changes, the PPU is unchanged. [derived: 41_load_store_transfer_stack.md section 4] -/
def Obligations.PushesStoreAtTheStackSlot : Prop :=
  ∀ s : State,
    (Runs .pha s (s.pc + 1) 3 fun t => t.sp = s.sp - 1 ∧ StoresByte s t (stackAddr s.sp) s.a ∧
      Keeps s t [.sp] ∧ FlagsAre s.p t.p [] ∧ t.ppu = s.ppu) ∧
    ∃ pushed, FlagsAre s.p pushed [(.b, true), (.u, true)] ∧
      Runs .php s (s.pc + 1) 3 fun t => t.sp = s.sp - 1 ∧ StoresByte s t (stackAddr s.sp) pushed ∧
        Keeps s t [.sp] ∧ FlagsAre s.p t.p [] ∧ t.ppu = s.ppu

/-- PLA pulls A and sets Z and N; PLP pulls P with B forced 0 and U forced 1. PLA and PLP complete in 4 cycles: SP
rises by 1 and the byte at 0100 | SP + 1 goes to A, with Z and N from it, or to P, with B = 0 and U = 1; no
other register changes, no byte of memory changes, the PPU is unchanged. [derived:
41_load_store_transfer_stack.md section 4] -/
def Obligations.PullsReadTheStackSlot : Prop :=
  ∀ s : State,
    (Runs .pla s (s.pc + 1) 4 fun t => t.a = stackByte s 1 ∧ t.sp = s.sp + 1 ∧
      FlagsAre s.p t.p (zn (stackByte s 1)) ∧ Keeps s t [.a, .sp] ∧ KeepsMemory s t ∧ t.ppu = s.ppu) ∧
    (Runs .plp s (s.pc + 1) 4 fun t => FlagsAre (stackByte s 1) t.p [(.b, false), (.u, true)] ∧ t.sp = s.sp + 1 ∧
      Keeps s t [.sp] ∧ KeepsMemory s t ∧ t.ppu = s.ppu)

/-- AND, ORA, EOR put the bitwise result in A and set Z and N from it. For every operand form, AND, ORA, EOR
complete with A the bitwise and, or, exclusive or of A and the operand read, Z and N from the result; C, V and
every other flag, register and byte of memory unchanged. [derived: 42_logic_shift.md section 1] -/
def Obligations.LogicCombinesAWithTheOperand : Prop :=
  ∀ (o : Operand) (s : State),
    let m := operandOf o s
    (ReadsOperand (.and o) o s [.a] fun t => t.a = s.a &&& m ∧ FlagsAre s.p t.p (zn (s.a &&& m))) ∧
    (ReadsOperand (.ora o) o s [.a] fun t => t.a = s.a ||| m ∧ FlagsAre s.p t.p (zn (s.a ||| m))) ∧
    (ReadsOperand (.eor o) o s [.a] fun t => t.a = s.a ^^^ m ∧ FlagsAre s.p t.p (zn (s.a ^^^ m)))

/-- ASL, LSR, ROL, ROR shift A or the memory byte, C gets the bit shifted out. For every form the table gives them,
ASL, LSR, ROL, ROR complete with C the bit shifted out and Z and N from the new byte; in Accumulator form A is
the new byte and memory and the PPU are unchanged; in the memory forms no register changes and the new byte is
stored at the address the form gives and nowhere else, after one read. The rotates take the carry before the
instruction. [derived: 42_logic_shift.md section 2] -/
def Obligations.ShiftsWorkOnAOrMemory : Prop :=
  ∀ p ∈ [(Instr.asl, fun m (_ : Bool) => asl8 m), (Instr.lsr, fun m _ => lsr8 m), (Instr.rol, rol8), (Instr.ror, ror8)],
    ∀ (o : Operand) (s : State), (p.1 o).wf = true →
      let r := (p.2 (operandOf o s) (s.flag .c)).1
      let c := (p.2 (operandOf o s) (s.flag .c)).2
      RunsOn (p.1 o) (modifyCost o) o s fun t =>
        FlagsAre s.p t.p ((.c, c) :: zn r) ∧
        (o = .acc → t.a = r ∧ Keeps s t [.a] ∧ KeepsMemory s t ∧ t.ppu = s.ppu) ∧
        (o ≠ .acc → Keeps s t [] ∧ WritesOperand o s t (operandRead o s).2 r)

/-- ADC adds, SBC (and its duplicate EB) subtracts, with carry and signed overflow; D is ignored. For every operand
form, ADC completes with A the sum A + M + C modulo 256, C when it exceeds 255, V when the signed sum leaves
-128 to 127; SBC and the undocumented SBC EB with A the difference A - M - (1 - C) modulo 256, C when no borrow
occurs, V when the signed difference leaves the range; Z and N from A; D and every other flag, register and byte
unchanged. [derived: 43_arith_compare_incdec.md sections 1 and 2, 45_undocumented.md section 3] -/
def Obligations.AdcAndSbcAreBinaryArithmetic : Prop :=
  ∀ (o : Operand) (s : State),
    let m := operandOf o s
    (ReadsOperand (.adc o) o s [.a] fun t =>
      t.a.toNat = (s.a.toNat + m.toNat + carry s) % 256 ∧
      FlagsAre s.p t.p ((.c, decide (255 < s.a.toNat + m.toNat + carry s)) ::
        (.v, outsideSigned (s.a.toInt + m.toInt + carry s)) :: zn t.a)) ∧
    (ReadsOperand (.sbc o) o s [.a] fun t => Subtracts s t m) ∧
    ∀ v, ReadsOperand (.sbcUndoc v) (.imm v) s [.a] fun t => Subtracts s t v

/-- CMP, CPX, CPY set C on register >= operand and Z, N from the difference, and write no register. For every
operand form, CMP, CPX, CPY complete with C = 1 exactly when A, X, Y is at least the operand as unsigned
numbers, Z exactly when they are equal, and N bit 7 of the difference modulo 256; V and every other flag, every
register and every byte of memory unchanged. [derived: 43_arith_compare_incdec.md section 3] -/
def Obligations.ComparesSetFlagsOnly : Prop :=
  ∀ (o : Operand) (s : State),
    let m := operandOf o s
    (ReadsOperand (.cmp o) o s [] fun t => Compares s t s.a m) ∧
    (ReadsOperand (.cpx o) o s [] fun t => Compares s t s.x m) ∧
    (ReadsOperand (.cpy o) o s [] fun t => Compares s t s.y m)

/-- INC and DEC read a byte once, write it back one higher or lower, and set Z and N from it. For every form the
table gives them, INC and DEC complete with the byte at the address the form gives replaced by it plus or minus
one modulo 256, stored there and nowhere else, after one read; Z and N from the new byte (also where the write
is discarded); C, V and every register unchanged. [derived: 43_arith_compare_incdec.md section 4] -/
def Obligations.IncAndDecStepAMemoryByte : Prop :=
  ∀ (o : Operand) (s : State),
    let m := operandOf o s
    ((Instr.inc o).wf = true → RunsOn (.inc o) (modifyCost o) o s fun t =>
      Keeps s t [] ∧ FlagsAre s.p t.p (zn (m + 1)) ∧ WritesOperand o s t (operandRead o s).2 (m + 1)) ∧
    ((Instr.dec o).wf = true → RunsOn (.dec o) (modifyCost o) o s fun t =>
      Keeps s t [] ∧ FlagsAre s.p t.p (zn (m - 1)) ∧ WritesOperand o s t (operandRead o s).2 (m - 1))

/-- INX, INY, DEX, DEY step X or Y modulo 256 and set Z and N; C and V do not change. INX, DEX, INY, DEY complete
with the register one higher or lower modulo 256, Z and N from it; C, V and everything else unchanged. [derived:
43_arith_compare_incdec.md section 4] -/
def Obligations.IndexRegistersStep : Prop :=
  ∀ s : State,
    (RunsInside .inx s fun t => t.x.toNat = (s.x.toNat + 1) % 256 ∧ Keeps s t [.x] ∧ FlagsAre s.p t.p (zn t.x)) ∧
    (RunsInside .dex s fun t => t.x.toNat = (s.x.toNat + 255) % 256 ∧ Keeps s t [.x] ∧ FlagsAre s.p t.p (zn t.x)) ∧
    (RunsInside .iny s fun t => t.y.toNat = (s.y.toNat + 1) % 256 ∧ Keeps s t [.y] ∧ FlagsAre s.p t.p (zn t.y)) ∧
    (RunsInside .dey s fun t => t.y.toNat = (s.y.toNat + 255) % 256 ∧ Keeps s t [.y] ∧ FlagsAre s.p t.p (zn t.y))

/-- BCC, BCS, BEQ, BNE, BMI, BPL, BVC, BVS: taken or not, target, and cost 2, 3 or 4. Each branch tests its flag:
not taken it goes on at pc0 + 2 for 2 cycles; taken it goes to pc0 + 2 + the signed offset modulo 65536, for 3
cycles, or 4 when the target's page differs from the page of the reference address (the opcode's own address, or
pc0 + 2 under the other setting of BRANCH_PAGE_REF). Nothing else changes. Which flag each tests is the spec's
general knowledge, the reference decision D5. [derived: 44_branch_jump_bit_flag_brk_rti_nop.md section 1,
40_execution_and_addressing.md section 2] -/
def Obligations.BranchesMoveOnlyPcAndCost : Prop :=
  ∀ p ∈ [(Instr.bcc, Flag.c, false), (Instr.bcs, Flag.c, true), (Instr.beq, Flag.z, true), (Instr.bne, Flag.z, false),
      (Instr.bmi, Flag.n, true), (Instr.bpl, Flag.n, false), (Instr.bvc, Flag.v, false), (Instr.bvs, Flag.v, true)],
    ∀ (off : Byte) (s : State),
      let target := BitVec.ofInt 16 (s.pc.toNat + 2 + off.toInt)
      let ref := if s.launch.branchPageRef = .opcodePc then s.pc.toNat else (s.pc.toNat + 2) % 65536
      (s.flag p.2.1 ≠ p.2.2 → Runs (p.1 off) s (s.pc + 2) 2 fun t =>
        Keeps s t [] ∧ FlagsAre s.p t.p [] ∧ KeepsMemory s t ∧ t.ppu = s.ppu) ∧
      (s.flag p.2.1 = p.2.2 → Runs (p.1 off) s target (if target.toNat / 256 = ref / 256 then 3 else 4) fun t =>
        Keeps s t [] ∧ FlagsAre s.p t.p [] ∧ KeepsMemory s t ∧ t.ppu = s.ppu)

/-- JMP goes to its address, JSR pushes pc0 + 2 and goes, RTS pulls and adds one. JMP absolute goes to its operand
in 3 cycles, JMP indirect to the word its engine gives in 5 (a pointer ending in FF takes its high byte from the
start of its page), changing nothing else but what the pointer reads change. JSR pushes the address of its own
last byte, high byte first, and goes to its target in 6. RTS goes to the pulled word plus one in 6. [derived:
44_branch_jump_bit_flag_brk_rti_nop.md section 2] -/
def Obligations.JumpsCallsAndReturns : Prop :=
  ∀ s : State,
    (∀ w, Runs (.jmp (.abs w)) s w 3 fun t =>
      Keeps s t [] ∧ FlagsAre s.p t.p [] ∧ KeepsMemory s t ∧ t.ppu = s.ppu) ∧
    (∀ w,
      let lo := rd w s
      let hi := rd (BitVec.ofNat 16 (w.toNat / 256 * 256 + (w.toNat + 1) % 256)) lo.2
      Runs (.jmp (.ind w)) s (word hi.1 lo.1) 5 fun t =>
        Keeps s t [] ∧ FlagsAre s.p t.p [] ∧ KeepsMemory s t ∧ t.ppu = hi.2.ppu) ∧
    (∀ w, Runs (.jsr w) s w 6 fun t =>
      t.sp = s.sp - 2 ∧
      (s.ram.wf = true → t.byteAt (stackAddr s.sp) = some (hiByte (s.pc + 2)) ∧
        t.byteAt (stackAddr (s.sp - 1)) = some (loByte (s.pc + 2))) ∧
      (∀ b, ¬SameCell b (stackAddr s.sp) → ¬SameCell b (stackAddr (s.sp - 1)) → t.byteAt b = s.byteAt b) ∧
      Keeps s t [.sp] ∧ FlagsAre s.p t.p [] ∧ t.ppu = s.ppu) ∧
    (Runs .rts s (word (stackByte s 2) (stackByte s 1) + 1) 6 fun t =>
      t.sp = s.sp + 2 ∧ Keeps s t [.sp] ∧ FlagsAre s.p t.p [] ∧ KeepsMemory s t ∧ t.ppu = s.ppu)

/-- BIT sets Z from A and M, N and V from bits 7 and 6 of M, and writes no register. For every operand form, BIT
completes with Z = 1 exactly when A and M is 0, N = bit 7 and V = bit 6 of the operand read; every register,
other flag and byte of memory unchanged. [derived: 44_branch_jump_bit_flag_brk_rti_nop.md section 3] -/
def Obligations.BitTestsMemoryAgainstA : Prop :=
  ∀ (o : Operand) (s : State),
    let m := operandOf o s
    ReadsOperand (.bit o) o s [] fun t =>
      FlagsAre s.p t.p [(.z, decide (s.a &&& m = 0)), (.n, decide (128 ≤ m.toNat)), (.v, decide (64 ≤ m.toNat % 128))]

/-- CLC, SEC, CLI, SEI, CLD, SED, CLV write one flag and nothing else. CLC, SEC, CLI, SEI, CLD, SED, CLV complete
with the one flag they name cleared or set and everything else unchanged. Which flag each names is the spec's
general knowledge. [derived: 44_branch_jump_bit_flag_brk_rti_nop.md section 4] -/
def Obligations.FlagInstructionsWriteOneFlag : Prop :=
  ∀ p ∈ [(Instr.clc, Flag.c, false), (Instr.sec, Flag.c, true), (Instr.cli, Flag.i, false), (Instr.sei, Flag.i, true),
      (Instr.cld, Flag.d, false), (Instr.sed, Flag.d, true), (Instr.clv, Flag.v, false)],
    ∀ s : State, RunsInside p.1 s fun t => Keeps s t [] ∧ FlagsAre s.p t.p [p.2]

/-- NOP, the undocumented NOPs, JAM, XAA, LXA, AHX, SHX, SHY, TAS only advance PC and charge their cycles. NOP,
every form of the undocumented NOP, all JAM bytes and the unstable XAA, LXA, AHX, SHX, SHY, TAS complete with PC
past the instruction, their cycles charged, and nothing else changed: no register, flag, byte of memory or PPU
state (the addressed byte is not read). The no-operation reading of the unstable and JAM bytes is decisions D2,
D3 of the spec (log entries 8 and 9). [derived: 44_branch_jump_bit_flag_brk_rti_nop.md section 6,
45_undocumented.md sections 3 to 5, notes/assumptions/8.md, notes/assumptions/9.md] -/
def Obligations.NoOperationsOnlyAdvance : Prop :=
  ∀ s : State,
    Idles .nop s 1 2 ∧ (∀ k, Idles (.jam k) s 1 2) ∧ Idles .xaa s 2 2 ∧ Idles .lxa s 2 2 ∧
    (∀ k, Idles (.nopUndoc (.imp k)) s 1 2) ∧ (∀ k, Idles (.nopUndoc (.imm k)) s 2 2) ∧
    (∀ k b, Idles (.nopUndoc (.zp k b)) s 2 3) ∧ (∀ k b, Idles (.nopUndoc (.zpx k b)) s 2 4) ∧
    (∀ w, Idles (.nopUndoc (.abs w)) s 3 4) ∧
    (∀ k w, Idles (.nopUndoc (.abx k w)) s 3
      (if (w.toNat + s.x.toNat) % 65536 / 256 = w.toNat / 256 then 4 else 5)) ∧
    (∀ w, Idles (.shx w) s 3 5 ∧ Idles (.shy w) s 3 5 ∧ Idles (.tas w) s 3 5) ∧
    (∀ w, Idles (.ahx (.aby w)) s 3 5) ∧ (∀ b, Idles (.ahx (.izy b)) s 2 6)

/-- SLO, RLA, SRE, RRA shift the memory byte, store it once, then combine it with A. For every form the table gives
them, SLO, RLA, SRE complete with the byte shifted (ASL, ROL, LSR) and stored at the address the form gives and
nowhere else, C the bit shifted out, A combined with the new byte (or, and, exclusive or), Z and N from A. RRA
rotates the byte right, stores it, and adds it to A with the bit rotated out as the carry-in, with ADC's flags.
No other register or flag changes. The pairings of RLA, SRE, RRA are the spec's general knowledge (D25).
[derived: 45_undocumented.md sections 1 and 2] -/
def Obligations.CombinedShiftsWriteMemoryThenA : Prop :=
  (∀ p ∈ [(Instr.slo, (fun m (_ : Bool) => asl8 m), (fun a r : Byte => a ||| r)), (Instr.rla, rol8, (fun a r => a &&& r)),
      (Instr.sre, (fun m _ => lsr8 m), (fun a r => a ^^^ r))],
    ∀ (o : Operand) (s : State), (p.1 o).wf = true →
      let r := (p.2.1 (operandOf o s) (s.flag .c)).1
      let c := (p.2.1 (operandOf o s) (s.flag .c)).2
      RunsOn (p.1 o) (modifyCost o) o s fun t =>
        t.a = p.2.2 s.a r ∧ FlagsAre s.p t.p ((.c, c) :: zn t.a) ∧ Keeps s t [.a] ∧
        WritesOperand o s t (operandRead o s).2 r) ∧
  ∀ (o : Operand) (s : State), (Instr.rra o).wf = true →
    let r := (ror8 (operandOf o s) (s.flag .c)).1
    let c := (operandOf o s).toNat % 2
    RunsOn (.rra o) (modifyCost o) o s fun t =>
      t.a.toNat = (s.a.toNat + r.toNat + c) % 256 ∧
      FlagsAre s.p t.p ((.c, decide (255 < s.a.toNat + r.toNat + c)) ::
        (.v, outsideSigned (s.a.toInt + r.toInt + c)) :: zn t.a) ∧
      Keeps s t [.a] ∧ WritesOperand o s t (operandRead o s).2 r

/-- DCP decrements memory and compares A with it; ISC increments memory and subtracts it from A. For every form the
table gives them, DCP completes with the byte one lower stored at the address the form gives and nowhere else
and the flags of comparing A with it, no register changed; ISC with the byte one higher stored there and A the
difference A - byte - (1 - C) with SBC's flags. The pairings are the spec's general knowledge (D25). [derived:
45_undocumented.md section 2] -/
def Obligations.DcpAndIscStepMemoryThenCompareOrSubtract : Prop :=
  ∀ (o : Operand) (s : State),
    let m := operandOf o s
    ((Instr.dcp o).wf = true → RunsOn (.dcp o) (modifyCost o) o s fun t =>
      Keeps s t [] ∧ Compares s t s.a (m - 1) ∧ WritesOperand o s t (operandRead o s).2 (m - 1)) ∧
    ((Instr.isc o).wf = true → RunsOn (.isc o) (modifyCost o) o s fun t =>
      Keeps s t [.a] ∧ Subtracts s t (m + 1) ∧ WritesOperand o s t (operandRead o s).2 (m + 1))

/-- ANC, ALR, ARR, AXS on an immediate byte and LAS on memory: results and flags. ANC: A and the byte, C = N. ALR: A
and the byte, then shifted right, C the bit out. ARR: A and the byte, then rotated right through C, C = bit 6
and V = bit 6 xor bit 5 of the result. AXS: X = (A and X) minus the byte modulo 256, C = no borrow. LAS: A = X =
SP = operand and SP. Z and N from the result each time; nothing else changes. The formulas are the spec's
general knowledge (D25). [derived: 45_undocumented.md section 3] -/
def Obligations.ImmediateCombinationsAndLas : Prop :=
  ∀ (s : State) (v : Byte),
    (∀ k, ReadsOperand (.anc k v) (.imm v) s [.a] fun t =>
      t.a = s.a &&& v ∧ FlagsAre s.p t.p ((.c, decide (128 ≤ (s.a &&& v).toNat)) :: zn t.a)) ∧
    (ReadsOperand (.alr v) (.imm v) s [.a] fun t =>
      t.a.toNat = (s.a &&& v).toNat / 2 ∧ FlagsAre s.p t.p ((.c, decide ((s.a &&& v).toNat % 2 = 1)) :: zn t.a)) ∧
    (ReadsOperand (.arr v) (.imm v) s [.a] fun t =>
      t.a.toNat = (s.a &&& v).toNat / 2 + 128 * carry s ∧
      FlagsAre s.p t.p ((.c, decide (t.a.toNat / 64 % 2 = 1)) ::
        (.v, decide (t.a.toNat / 64 % 2 ≠ t.a.toNat / 32 % 2)) :: zn t.a)) ∧
    (ReadsOperand (.axs v) (.imm v) s [.x] fun t =>
      t.x = (s.a &&& s.x) - v ∧ FlagsAre s.p t.p ((.c, decide (v.toNat ≤ (s.a &&& s.x).toNat)) :: zn t.x)) ∧
    ∀ w,
      let r := operandOf (.aby w) s &&& s.sp
      ReadsOperand (.las w) (.aby w) s [.a, .x, .sp] fun t =>
        t.a = r ∧ t.x = r ∧ t.sp = r ∧ FlagsAre s.p t.p (zn r)

/-- Decoding the encoding of any well-formed instruction gives it back. For every well-formed instruction, with
every operand at every value, the decoder on the encoder's bytes, whatever bytes follow them, gives that
instruction. The opcode bytes are the spec's general knowledge (K1); bytes never read are encoded as 0 (log
entry 12). [derived: 30_encoding.md sections 1 to 4, notes/assumptions/12.md] -/
def Obligations.DecodeOfEncodeIsTheInstruction : Prop :=
  ∀ (i : Instr) (rest : List Byte), i.wf = true → decode (encode i ++ rest) = .ok i

/-- Each of the 256 opcode bytes decodes to a well-formed instruction whose own opcode byte it is. For every opcode
byte and operand bytes, the decoded instruction is well formed, the encoder gives it that same opcode byte, and
the operand bytes the machine reads are its operand bytes; so no two opcode bytes share an instruction and no
read bit is dropped. [derived: 30_encoding.md sections 1 to 4] -/
def Obligations.EveryOpcodeByteDecodesToItsOwnInstruction : Prop :=
  ∀ op lo hi : Byte,
    ∃ i, decode [op, lo, hi] = .ok i ∧ i.wf = true ∧ opcode i = some op ∧
      ((row op).reads = 0 ∨ ((row op).reads = 1 ∧ encode i = [op, lo]) ∨ ((row op).reads = 2 ∧ encode i = [op, lo, hi]))

/-- A word of each family decodes to the instruction the spec gives it. Words written out from the examples of the
instruction rules decode to the instruction they stand for, one or more of each family. The opcode bytes are the
spec's general knowledge, except A9, F0, 6C. [derived: 41_load_store_transfer_stack.md, 42_logic_shift.md,
43_arith_compare_incdec.md, 44_branch_jump_bit_flag_brk_rti_nop.md, 45_undocumented.md] -/
def Obligations.SampleWordsDecodeAsTheSpecWritesThem : Prop :=
  decode [0xA9, 0x42] = .ok (.lda (.imm 0x42)) ∧ decode [0x8D, 0x00, 0x02] = .ok (.sta (.abs 0x0200)) ∧
  decode [0x96, 0x10] = .ok (.stx (.zpy 0x10)) ∧ decode [0x9A] = .ok .txs ∧ decode [0x28] = .ok .plp ∧
  decode [0x29, 0x3C] = .ok (.and (.imm 0x3C)) ∧ decode [0x6A] = .ok (.ror .acc) ∧
  decode [0xE9, 0x10] = .ok (.sbc (.imm 0x10)) ∧ decode [0xEE, 0x00, 0x80] = .ok (.inc (.abs 0x8000)) ∧
  decode [0xF0, 0x02] = .ok (.beq 0x02) ∧ decode [0x6C, 0xFF, 0x02] = .ok (.jmp (.ind 0x02FF)) ∧
  decode [0x20, 0x34, 0x12] = .ok (.jsr 0x1234) ∧ decode [0x24, 0x10] = .ok (.bit (.zp 0x10)) ∧
  decode [0x00] = .ok .brk ∧ decode [0x13, 0x20] = .ok (.slo (.izy 0x20)) ∧
  decode [0xBB, 0x00, 0x03] = .ok (.las 0x0300) ∧ decode [0x1C, 0xFF, 0x02] = .ok (.nopUndoc (.abx 0 0x02FF)) ∧
  decode [0xEB, 0x10] = .ok (.sbcUndoc 0x10) ∧ decode [0x9C, 0x00, 0x03] = .ok (.shy 0x0300) ∧ decode [0x02] = .ok (.jam 0)

/-- Each of the 256 opcodes has the size, base cycles and page-cross flag of the opcode map. For every opcode byte,
operand bytes and state, with the map's entry (size s, base cost c, flag x): the encoding is s bytes long;
executing the instruction adds to total_cycles exactly c, plus at most 2 for a branch, plus at most 1 for an
opcode with the flag x, and leaves cycles_remaining one less than the cost. BRK counts its padding byte (BRK_PAD
= 1). The numbers are the spec's general knowledge (K1), except those of the JAM bytes, its decision D2, and of
the unstable XAA, AHX, SHX, SHY, TAS, LXA, its decision D3. That these bytes run at all is the model's choice
(log entries 9 and 8); the size counts a byte the machine never reads, which the encoder writes as 0 (log entry
12), and BRK_PAD = 1 in the size of BRK is decision D4 (log entry 10). [derived: 30_encoding.md sections 3 and
6, 70_reset_and_hazards.md section 3, notes/assumptions/8.md, notes/assumptions/9.md, notes/assumptions/10.md,
notes/assumptions/12.md] -/
def Obligations.EveryOpcodeHasItsSizeAndCost : Prop :=
  descriptors.length = 256 ∧
  ∀ (op lo hi : Byte) (s : State),
    let i := assemble op lo hi
    let d := descriptors.getD op.toNat ⟨0, 0, false⟩
    (encode i).length = d.size ∧
    ∃ t extra, exec i s = .next t ∧ extra ≤ (if isBranch i then 2 else if d.extra then 1 else 0) ∧
      t.totalCycles = s.totalCycles + BitVec.ofNat 64 (d.cycles + extra) ∧ t.cyclesRemaining = d.cycles + extra - 1
end

