-- ==== Sys2Proof/Laws/Memory.lean ====
section
/-! SUPPORT. Byte arrays: read after write, and every operation keeps the canonical form and the size. -/

namespace Sys2Proof.Machine

@[simp] theorem Memory.read_nil (i : Nat) : Memory.read [] i = 0 := rfl

theorem Memory.wfFrom_mono {lo lo' : Nat} (h : lo ≤ lo') {m : Memory} (hm : m.wfFrom lo' = true) :
    m.wfFrom lo = true := by
  cases m with
  | nil => rfl
  | cons c m =>
    simp only [Memory.wfFrom, Bool.and_eq_true, decide_eq_true_eq] at hm ⊢
    exact ⟨⟨Nat.le_trans h hm.1.1, hm.1.2⟩, hm.2⟩

/-- Nothing is listed below the start of a canonical array. -/
theorem Memory.read_below {lo i : Nat} {m : Memory} (hm : m.wfFrom lo = true) (hi : i < lo) : m.read i = 0 := by
  induction m generalizing lo with
  | nil => rfl
  | cons c m ih =>
    simp only [Memory.wfFrom, Bool.and_eq_true, decide_eq_true_eq] at hm
    simp only [Memory.read, show ¬c.1 = i by omega, if_false]
    exact ih hm.2 (by omega)

theorem Memory.read_write_same {lo : Nat} {m : Memory} (hm : m.wfFrom lo = true) (i : Nat) (v : Byte) :
    (m.write i v).read i = v := by
  induction m generalizing lo with
  | nil => by_cases hv : v = 0#8 <;> simp [Memory.write, Memory.read, hv]
  | cons c m ih =>
    simp only [Memory.wfFrom, Bool.and_eq_true, decide_eq_true_eq] at hm
    have above : i ≤ c.1 → Memory.read m i = 0#8 := fun h => Memory.read_below hm.2 (by omega)
    by_cases h1 : i < c.1
    · by_cases hv : v = 0#8 <;> simp [Memory.write, Memory.read, h1, hv, above (by omega), show ¬c.1 = i by omega]
    · by_cases h2 : i = c.1
      · by_cases hv : v = 0#8 <;> simp [Memory.write, Memory.read, h2, hv]
        exact h2 ▸ above (by omega)
      · simp [Memory.write, Memory.read, h1, h2, show ¬c.1 = i by omega, ih hm.2]

theorem Memory.read_write_ne {i j : Nat} (h : j ≠ i) (m : Memory) (v : Byte) : (m.write i v).read j = m.read j := by
  induction m with
  | nil => by_cases hv : v = 0#8 <;> simp [Memory.write, Memory.read, hv, h.symm]
  | cons c m ih =>
    by_cases h1 : i < c.1
    · by_cases hv : v = 0#8 <;> simp [Memory.write, Memory.read, h1, hv, h.symm]
    · by_cases h2 : i = c.1
      · by_cases hv : v = 0#8 <;> simp [Memory.write, Memory.read, hv, ← h2, h.symm]
      · simp [Memory.write, Memory.read, h1, h2, ih]

theorem Memory.write_wfFrom {lo i : Nat} {m : Memory} (hm : m.wfFrom lo = true) (hi : lo ≤ i) (v : Byte) :
    (m.write i v).wfFrom lo = true := by
  induction m generalizing lo with
  | nil => by_cases hv : v = 0#8 <;> simp [Memory.write, Memory.wfFrom, hv, hi]
  | cons c m ih =>
    have hm' := hm
    simp only [Memory.wfFrom, Bool.and_eq_true, decide_eq_true_eq] at hm
    by_cases h1 : i < c.1
    · by_cases hv : v = 0#8
      · simpa [Memory.write, h1, hv] using hm'
      · simp_all [Memory.write, Memory.wfFrom]
    · by_cases h2 : i = c.1
      · by_cases hv : v = 0#8
        · simpa [Memory.write, h2, hv] using Memory.wfFrom_mono (by omega) hm.2
        · simp_all [Memory.write, Memory.wfFrom]
      · simp only [Memory.write, h1, h2, if_false, Memory.wfFrom, Bool.and_eq_true, decide_eq_true_eq]
        exact ⟨hm.1, ih hm.2 (by omega)⟩

/-- A write keeps the canonical form. -/
theorem Memory.write_wf {m : Memory} (hm : m.wf = true) (i : Nat) (v : Byte) : (m.write i v).wf = true :=
  Memory.write_wfFrom hm (Nat.zero_le i) v

/-- A write inside the array's size keeps every listed index inside it. -/
theorem Memory.write_below {n i : Nat} {m : Memory} (hm : m.below n = true) (hi : i < n) (v : Byte) :
    (m.write i v).below n = true := by
  induction m with
  | nil => by_cases hv : v = 0#8 <;> simp [Memory.write, Memory.below, hv, hi]
  | cons c m ih =>
    simp only [Memory.below, List.all_cons, Bool.and_eq_true] at hm ih
    by_cases h1 : i < c.1
    · by_cases hv : v = 0#8 <;>
        simp only [Memory.write, Memory.below, h1, hv, BitVec.ofNat_eq_ofNat, if_true, if_false, List.all_cons,
          Bool.and_eq_true, decide_eq_true_eq]
      · exact ⟨by simpa using hm.1, hm.2⟩
      · exact ⟨hi, by simpa using hm.1, hm.2⟩
    · by_cases h2 : i = c.1
      · by_cases hv : v = 0#8 <;>
          simp only [Memory.write, Memory.below, h2, hv, BitVec.ofNat_eq_ofNat, if_true, if_false, List.all_cons,
            Bool.and_eq_true, decide_eq_true_eq, Nat.lt_irrefl]
        · exact hm.2
        · exact ⟨h2 ▸ hi, hm.2⟩
      · simp only [Memory.write, h1, h2, if_false, Memory.below, List.all_cons, Bool.and_eq_true]
        exact ⟨hm.1, ih hm.2⟩

theorem ramIndex_lt (a : Addr) : ramIndex a < 2048 := by
  have : (a &&& 0x07FF#16).toNat ≤ 0x07FF := by
    rw [BitVec.toNat_and]; exact Nat.and_le_right
  exact Nat.lt_succ_of_le this

end Sys2Proof.Machine
end

