-- ==== Sys2Proof/Laws/State.lean ====
section
/-! SUPPORT. One lemma per field per update of State, so that no proof unfolds a record update. -/

namespace Sys2Proof.Machine

variable (s : State)

/-! ### setA -/

@[simp] theorem State.setA_a (v) : (s.setA v).a = v := rfl
@[simp] theorem State.setA_x (v) : (s.setA v).x = s.x := rfl
@[simp] theorem State.setA_y (v) : (s.setA v).y = s.y := rfl
@[simp] theorem State.setA_sp (v) : (s.setA v).sp = s.sp := rfl
@[simp] theorem State.setA_p (v) : (s.setA v).p = s.p := rfl
@[simp] theorem State.setA_pc (v) : (s.setA v).pc = s.pc := rfl
@[simp] theorem State.setA_cyclesRemaining (v) : (s.setA v).cyclesRemaining = s.cyclesRemaining := rfl
@[simp] theorem State.setA_totalCycles (v) : (s.setA v).totalCycles = s.totalCycles := rfl
@[simp] theorem State.setA_ram (v) : (s.setA v).ram = s.ram := rfl
@[simp] theorem State.setA_ppu (v) : (s.setA v).ppu = s.ppu := rfl
@[simp] theorem State.setA_masterTicks (v) : (s.setA v).masterTicks = s.masterTicks := rfl
@[simp] theorem State.setA_launch (v) : (s.setA v).launch = s.launch := rfl
@[simp] theorem State.setA_schedule (v) : (s.setA v).schedule = s.schedule := rfl
@[simp] theorem State.setA_freeReads (v) : (s.setA v).freeReads = s.freeReads := rfl

/-! ### setX -/

@[simp] theorem State.setX_a (v) : (s.setX v).a = s.a := rfl
@[simp] theorem State.setX_x (v) : (s.setX v).x = v := rfl
@[simp] theorem State.setX_y (v) : (s.setX v).y = s.y := rfl
@[simp] theorem State.setX_sp (v) : (s.setX v).sp = s.sp := rfl
@[simp] theorem State.setX_p (v) : (s.setX v).p = s.p := rfl
@[simp] theorem State.setX_pc (v) : (s.setX v).pc = s.pc := rfl
@[simp] theorem State.setX_cyclesRemaining (v) : (s.setX v).cyclesRemaining = s.cyclesRemaining := rfl
@[simp] theorem State.setX_totalCycles (v) : (s.setX v).totalCycles = s.totalCycles := rfl
@[simp] theorem State.setX_ram (v) : (s.setX v).ram = s.ram := rfl
@[simp] theorem State.setX_ppu (v) : (s.setX v).ppu = s.ppu := rfl
@[simp] theorem State.setX_masterTicks (v) : (s.setX v).masterTicks = s.masterTicks := rfl
@[simp] theorem State.setX_launch (v) : (s.setX v).launch = s.launch := rfl
@[simp] theorem State.setX_schedule (v) : (s.setX v).schedule = s.schedule := rfl
@[simp] theorem State.setX_freeReads (v) : (s.setX v).freeReads = s.freeReads := rfl

/-! ### setY -/

@[simp] theorem State.setY_a (v) : (s.setY v).a = s.a := rfl
@[simp] theorem State.setY_x (v) : (s.setY v).x = s.x := rfl
@[simp] theorem State.setY_y (v) : (s.setY v).y = v := rfl
@[simp] theorem State.setY_sp (v) : (s.setY v).sp = s.sp := rfl
@[simp] theorem State.setY_p (v) : (s.setY v).p = s.p := rfl
@[simp] theorem State.setY_pc (v) : (s.setY v).pc = s.pc := rfl
@[simp] theorem State.setY_cyclesRemaining (v) : (s.setY v).cyclesRemaining = s.cyclesRemaining := rfl
@[simp] theorem State.setY_totalCycles (v) : (s.setY v).totalCycles = s.totalCycles := rfl
@[simp] theorem State.setY_ram (v) : (s.setY v).ram = s.ram := rfl
@[simp] theorem State.setY_ppu (v) : (s.setY v).ppu = s.ppu := rfl
@[simp] theorem State.setY_masterTicks (v) : (s.setY v).masterTicks = s.masterTicks := rfl
@[simp] theorem State.setY_launch (v) : (s.setY v).launch = s.launch := rfl
@[simp] theorem State.setY_schedule (v) : (s.setY v).schedule = s.schedule := rfl
@[simp] theorem State.setY_freeReads (v) : (s.setY v).freeReads = s.freeReads := rfl

/-! ### setSP -/

@[simp] theorem State.setSP_a (v) : (s.setSP v).a = s.a := rfl
@[simp] theorem State.setSP_x (v) : (s.setSP v).x = s.x := rfl
@[simp] theorem State.setSP_y (v) : (s.setSP v).y = s.y := rfl
@[simp] theorem State.setSP_sp (v) : (s.setSP v).sp = v := rfl
@[simp] theorem State.setSP_p (v) : (s.setSP v).p = s.p := rfl
@[simp] theorem State.setSP_pc (v) : (s.setSP v).pc = s.pc := rfl
@[simp] theorem State.setSP_cyclesRemaining (v) : (s.setSP v).cyclesRemaining = s.cyclesRemaining := rfl
@[simp] theorem State.setSP_totalCycles (v) : (s.setSP v).totalCycles = s.totalCycles := rfl
@[simp] theorem State.setSP_ram (v) : (s.setSP v).ram = s.ram := rfl
@[simp] theorem State.setSP_ppu (v) : (s.setSP v).ppu = s.ppu := rfl
@[simp] theorem State.setSP_masterTicks (v) : (s.setSP v).masterTicks = s.masterTicks := rfl
@[simp] theorem State.setSP_launch (v) : (s.setSP v).launch = s.launch := rfl
@[simp] theorem State.setSP_schedule (v) : (s.setSP v).schedule = s.schedule := rfl
@[simp] theorem State.setSP_freeReads (v) : (s.setSP v).freeReads = s.freeReads := rfl

/-! ### setP -/

@[simp] theorem State.setP_a (v) : (s.setP v).a = s.a := rfl
@[simp] theorem State.setP_x (v) : (s.setP v).x = s.x := rfl
@[simp] theorem State.setP_y (v) : (s.setP v).y = s.y := rfl
@[simp] theorem State.setP_sp (v) : (s.setP v).sp = s.sp := rfl
@[simp] theorem State.setP_p (v) : (s.setP v).p = v := rfl
@[simp] theorem State.setP_pc (v) : (s.setP v).pc = s.pc := rfl
@[simp] theorem State.setP_cyclesRemaining (v) : (s.setP v).cyclesRemaining = s.cyclesRemaining := rfl
@[simp] theorem State.setP_totalCycles (v) : (s.setP v).totalCycles = s.totalCycles := rfl
@[simp] theorem State.setP_ram (v) : (s.setP v).ram = s.ram := rfl
@[simp] theorem State.setP_ppu (v) : (s.setP v).ppu = s.ppu := rfl
@[simp] theorem State.setP_masterTicks (v) : (s.setP v).masterTicks = s.masterTicks := rfl
@[simp] theorem State.setP_launch (v) : (s.setP v).launch = s.launch := rfl
@[simp] theorem State.setP_schedule (v) : (s.setP v).schedule = s.schedule := rfl
@[simp] theorem State.setP_freeReads (v) : (s.setP v).freeReads = s.freeReads := rfl

/-! ### setPC -/

@[simp] theorem State.setPC_a (v) : (s.setPC v).a = s.a := rfl
@[simp] theorem State.setPC_x (v) : (s.setPC v).x = s.x := rfl
@[simp] theorem State.setPC_y (v) : (s.setPC v).y = s.y := rfl
@[simp] theorem State.setPC_sp (v) : (s.setPC v).sp = s.sp := rfl
@[simp] theorem State.setPC_p (v) : (s.setPC v).p = s.p := rfl
@[simp] theorem State.setPC_pc (v) : (s.setPC v).pc = v := rfl
@[simp] theorem State.setPC_cyclesRemaining (v) : (s.setPC v).cyclesRemaining = s.cyclesRemaining := rfl
@[simp] theorem State.setPC_totalCycles (v) : (s.setPC v).totalCycles = s.totalCycles := rfl
@[simp] theorem State.setPC_ram (v) : (s.setPC v).ram = s.ram := rfl
@[simp] theorem State.setPC_ppu (v) : (s.setPC v).ppu = s.ppu := rfl
@[simp] theorem State.setPC_masterTicks (v) : (s.setPC v).masterTicks = s.masterTicks := rfl
@[simp] theorem State.setPC_launch (v) : (s.setPC v).launch = s.launch := rfl
@[simp] theorem State.setPC_schedule (v) : (s.setPC v).schedule = s.schedule := rfl
@[simp] theorem State.setPC_freeReads (v) : (s.setPC v).freeReads = s.freeReads := rfl

/-! ### setRam -/

@[simp] theorem State.setRam_a (v) : (s.setRam v).a = s.a := rfl
@[simp] theorem State.setRam_x (v) : (s.setRam v).x = s.x := rfl
@[simp] theorem State.setRam_y (v) : (s.setRam v).y = s.y := rfl
@[simp] theorem State.setRam_sp (v) : (s.setRam v).sp = s.sp := rfl
@[simp] theorem State.setRam_p (v) : (s.setRam v).p = s.p := rfl
@[simp] theorem State.setRam_pc (v) : (s.setRam v).pc = s.pc := rfl
@[simp] theorem State.setRam_cyclesRemaining (v) : (s.setRam v).cyclesRemaining = s.cyclesRemaining := rfl
@[simp] theorem State.setRam_totalCycles (v) : (s.setRam v).totalCycles = s.totalCycles := rfl
@[simp] theorem State.setRam_ram (v) : (s.setRam v).ram = v := rfl
@[simp] theorem State.setRam_ppu (v) : (s.setRam v).ppu = s.ppu := rfl
@[simp] theorem State.setRam_masterTicks (v) : (s.setRam v).masterTicks = s.masterTicks := rfl
@[simp] theorem State.setRam_launch (v) : (s.setRam v).launch = s.launch := rfl
@[simp] theorem State.setRam_schedule (v) : (s.setRam v).schedule = s.schedule := rfl
@[simp] theorem State.setRam_freeReads (v) : (s.setRam v).freeReads = s.freeReads := rfl

/-! ### setPpu -/

@[simp] theorem State.setPpu_a (v) : (s.setPpu v).a = s.a := rfl
@[simp] theorem State.setPpu_x (v) : (s.setPpu v).x = s.x := rfl
@[simp] theorem State.setPpu_y (v) : (s.setPpu v).y = s.y := rfl
@[simp] theorem State.setPpu_sp (v) : (s.setPpu v).sp = s.sp := rfl
@[simp] theorem State.setPpu_p (v) : (s.setPpu v).p = s.p := rfl
@[simp] theorem State.setPpu_pc (v) : (s.setPpu v).pc = s.pc := rfl
@[simp] theorem State.setPpu_cyclesRemaining (v) : (s.setPpu v).cyclesRemaining = s.cyclesRemaining := rfl
@[simp] theorem State.setPpu_totalCycles (v) : (s.setPpu v).totalCycles = s.totalCycles := rfl
@[simp] theorem State.setPpu_ram (v) : (s.setPpu v).ram = s.ram := rfl
@[simp] theorem State.setPpu_ppu (v) : (s.setPpu v).ppu = v := rfl
@[simp] theorem State.setPpu_masterTicks (v) : (s.setPpu v).masterTicks = s.masterTicks := rfl
@[simp] theorem State.setPpu_launch (v) : (s.setPpu v).launch = s.launch := rfl
@[simp] theorem State.setPpu_schedule (v) : (s.setPpu v).schedule = s.schedule := rfl
@[simp] theorem State.setPpu_freeReads (v) : (s.setPpu v).freeReads = s.freeReads := rfl

/-! ### setCyclesRemaining -/

@[simp] theorem State.setCyclesRemaining_a (v) : (s.setCyclesRemaining v).a = s.a := rfl
@[simp] theorem State.setCyclesRemaining_x (v) : (s.setCyclesRemaining v).x = s.x := rfl
@[simp] theorem State.setCyclesRemaining_y (v) : (s.setCyclesRemaining v).y = s.y := rfl
@[simp] theorem State.setCyclesRemaining_sp (v) : (s.setCyclesRemaining v).sp = s.sp := rfl
@[simp] theorem State.setCyclesRemaining_p (v) : (s.setCyclesRemaining v).p = s.p := rfl
@[simp] theorem State.setCyclesRemaining_pc (v) : (s.setCyclesRemaining v).pc = s.pc := rfl
@[simp] theorem State.setCyclesRemaining_cyclesRemaining (v) : (s.setCyclesRemaining v).cyclesRemaining = v := rfl
@[simp] theorem State.setCyclesRemaining_totalCycles (v) : (s.setCyclesRemaining v).totalCycles = s.totalCycles := rfl
@[simp] theorem State.setCyclesRemaining_ram (v) : (s.setCyclesRemaining v).ram = s.ram := rfl
@[simp] theorem State.setCyclesRemaining_ppu (v) : (s.setCyclesRemaining v).ppu = s.ppu := rfl
@[simp] theorem State.setCyclesRemaining_masterTicks (v) : (s.setCyclesRemaining v).masterTicks = s.masterTicks := rfl
@[simp] theorem State.setCyclesRemaining_launch (v) : (s.setCyclesRemaining v).launch = s.launch := rfl
@[simp] theorem State.setCyclesRemaining_schedule (v) : (s.setCyclesRemaining v).schedule = s.schedule := rfl
@[simp] theorem State.setCyclesRemaining_freeReads (v) : (s.setCyclesRemaining v).freeReads = s.freeReads := rfl

/-! ### setTotalCycles -/

@[simp] theorem State.setTotalCycles_a (v) : (s.setTotalCycles v).a = s.a := rfl
@[simp] theorem State.setTotalCycles_x (v) : (s.setTotalCycles v).x = s.x := rfl
@[simp] theorem State.setTotalCycles_y (v) : (s.setTotalCycles v).y = s.y := rfl
@[simp] theorem State.setTotalCycles_sp (v) : (s.setTotalCycles v).sp = s.sp := rfl
@[simp] theorem State.setTotalCycles_p (v) : (s.setTotalCycles v).p = s.p := rfl
@[simp] theorem State.setTotalCycles_pc (v) : (s.setTotalCycles v).pc = s.pc := rfl
@[simp] theorem State.setTotalCycles_cyclesRemaining (v) : (s.setTotalCycles v).cyclesRemaining = s.cyclesRemaining := rfl
@[simp] theorem State.setTotalCycles_totalCycles (v) : (s.setTotalCycles v).totalCycles = v := rfl
@[simp] theorem State.setTotalCycles_ram (v) : (s.setTotalCycles v).ram = s.ram := rfl
@[simp] theorem State.setTotalCycles_ppu (v) : (s.setTotalCycles v).ppu = s.ppu := rfl
@[simp] theorem State.setTotalCycles_masterTicks (v) : (s.setTotalCycles v).masterTicks = s.masterTicks := rfl
@[simp] theorem State.setTotalCycles_launch (v) : (s.setTotalCycles v).launch = s.launch := rfl
@[simp] theorem State.setTotalCycles_schedule (v) : (s.setTotalCycles v).schedule = s.schedule := rfl
@[simp] theorem State.setTotalCycles_freeReads (v) : (s.setTotalCycles v).freeReads = s.freeReads := rfl

/-! ### setMasterTicks -/

@[simp] theorem State.setMasterTicks_a (v) : (s.setMasterTicks v).a = s.a := rfl
@[simp] theorem State.setMasterTicks_x (v) : (s.setMasterTicks v).x = s.x := rfl
@[simp] theorem State.setMasterTicks_y (v) : (s.setMasterTicks v).y = s.y := rfl
@[simp] theorem State.setMasterTicks_sp (v) : (s.setMasterTicks v).sp = s.sp := rfl
@[simp] theorem State.setMasterTicks_p (v) : (s.setMasterTicks v).p = s.p := rfl
@[simp] theorem State.setMasterTicks_pc (v) : (s.setMasterTicks v).pc = s.pc := rfl
@[simp] theorem State.setMasterTicks_cyclesRemaining (v) : (s.setMasterTicks v).cyclesRemaining = s.cyclesRemaining := rfl
@[simp] theorem State.setMasterTicks_totalCycles (v) : (s.setMasterTicks v).totalCycles = s.totalCycles := rfl
@[simp] theorem State.setMasterTicks_ram (v) : (s.setMasterTicks v).ram = s.ram := rfl
@[simp] theorem State.setMasterTicks_ppu (v) : (s.setMasterTicks v).ppu = s.ppu := rfl
@[simp] theorem State.setMasterTicks_masterTicks (v) : (s.setMasterTicks v).masterTicks = v := rfl
@[simp] theorem State.setMasterTicks_launch (v) : (s.setMasterTicks v).launch = s.launch := rfl
@[simp] theorem State.setMasterTicks_schedule (v) : (s.setMasterTicks v).schedule = s.schedule := rfl
@[simp] theorem State.setMasterTicks_freeReads (v) : (s.setMasterTicks v).freeReads = s.freeReads := rfl

/-! ### setSchedule -/

@[simp] theorem State.setSchedule_a (v) : (s.setSchedule v).a = s.a := rfl
@[simp] theorem State.setSchedule_x (v) : (s.setSchedule v).x = s.x := rfl
@[simp] theorem State.setSchedule_y (v) : (s.setSchedule v).y = s.y := rfl
@[simp] theorem State.setSchedule_sp (v) : (s.setSchedule v).sp = s.sp := rfl
@[simp] theorem State.setSchedule_p (v) : (s.setSchedule v).p = s.p := rfl
@[simp] theorem State.setSchedule_pc (v) : (s.setSchedule v).pc = s.pc := rfl
@[simp] theorem State.setSchedule_cyclesRemaining (v) : (s.setSchedule v).cyclesRemaining = s.cyclesRemaining := rfl
@[simp] theorem State.setSchedule_totalCycles (v) : (s.setSchedule v).totalCycles = s.totalCycles := rfl
@[simp] theorem State.setSchedule_ram (v) : (s.setSchedule v).ram = s.ram := rfl
@[simp] theorem State.setSchedule_ppu (v) : (s.setSchedule v).ppu = s.ppu := rfl
@[simp] theorem State.setSchedule_masterTicks (v) : (s.setSchedule v).masterTicks = s.masterTicks := rfl
@[simp] theorem State.setSchedule_launch (v) : (s.setSchedule v).launch = s.launch := rfl
@[simp] theorem State.setSchedule_schedule (v) : (s.setSchedule v).schedule = v := rfl
@[simp] theorem State.setSchedule_freeReads (v) : (s.setSchedule v).freeReads = s.freeReads := rfl

/-! ### setFreeReads -/

@[simp] theorem State.setFreeReads_a (v) : (s.setFreeReads v).a = s.a := rfl
@[simp] theorem State.setFreeReads_x (v) : (s.setFreeReads v).x = s.x := rfl
@[simp] theorem State.setFreeReads_y (v) : (s.setFreeReads v).y = s.y := rfl
@[simp] theorem State.setFreeReads_sp (v) : (s.setFreeReads v).sp = s.sp := rfl
@[simp] theorem State.setFreeReads_p (v) : (s.setFreeReads v).p = s.p := rfl
@[simp] theorem State.setFreeReads_pc (v) : (s.setFreeReads v).pc = s.pc := rfl
@[simp] theorem State.setFreeReads_cyclesRemaining (v) : (s.setFreeReads v).cyclesRemaining = s.cyclesRemaining := rfl
@[simp] theorem State.setFreeReads_totalCycles (v) : (s.setFreeReads v).totalCycles = s.totalCycles := rfl
@[simp] theorem State.setFreeReads_ram (v) : (s.setFreeReads v).ram = s.ram := rfl
@[simp] theorem State.setFreeReads_ppu (v) : (s.setFreeReads v).ppu = s.ppu := rfl
@[simp] theorem State.setFreeReads_masterTicks (v) : (s.setFreeReads v).masterTicks = s.masterTicks := rfl
@[simp] theorem State.setFreeReads_launch (v) : (s.setFreeReads v).launch = s.launch := rfl
@[simp] theorem State.setFreeReads_schedule (v) : (s.setFreeReads v).schedule = s.schedule := rfl
@[simp] theorem State.setFreeReads_freeReads (v) : (s.setFreeReads v).freeReads = v := rfl

/-! ### setFlag -/

@[simp] theorem State.setFlag_a (f) (v) : (s.setFlag f v).a = s.a := rfl
@[simp] theorem State.setFlag_x (f) (v) : (s.setFlag f v).x = s.x := rfl
@[simp] theorem State.setFlag_y (f) (v) : (s.setFlag f v).y = s.y := rfl
@[simp] theorem State.setFlag_sp (f) (v) : (s.setFlag f v).sp = s.sp := rfl
@[simp] theorem State.setFlag_p (f) (v) : (s.setFlag f v).p = putFlag f v s.p := rfl
@[simp] theorem State.setFlag_pc (f) (v) : (s.setFlag f v).pc = s.pc := rfl
@[simp] theorem State.setFlag_cyclesRemaining (f) (v) : (s.setFlag f v).cyclesRemaining = s.cyclesRemaining := rfl
@[simp] theorem State.setFlag_totalCycles (f) (v) : (s.setFlag f v).totalCycles = s.totalCycles := rfl
@[simp] theorem State.setFlag_ram (f) (v) : (s.setFlag f v).ram = s.ram := rfl
@[simp] theorem State.setFlag_ppu (f) (v) : (s.setFlag f v).ppu = s.ppu := rfl
@[simp] theorem State.setFlag_masterTicks (f) (v) : (s.setFlag f v).masterTicks = s.masterTicks := rfl
@[simp] theorem State.setFlag_launch (f) (v) : (s.setFlag f v).launch = s.launch := rfl
@[simp] theorem State.setFlag_schedule (f) (v) : (s.setFlag f v).schedule = s.schedule := rfl
@[simp] theorem State.setFlag_freeReads (f) (v) : (s.setFlag f v).freeReads = s.freeReads := rfl

/-! ### setZN -/

@[simp] theorem State.setZN_a (v) : (s.setZN v).a = s.a := rfl
@[simp] theorem State.setZN_x (v) : (s.setZN v).x = s.x := rfl
@[simp] theorem State.setZN_y (v) : (s.setZN v).y = s.y := rfl
@[simp] theorem State.setZN_sp (v) : (s.setZN v).sp = s.sp := rfl
@[simp] theorem State.setZN_p (v) : (s.setZN v).p = putZN v s.p := rfl
@[simp] theorem State.setZN_pc (v) : (s.setZN v).pc = s.pc := rfl
@[simp] theorem State.setZN_cyclesRemaining (v) : (s.setZN v).cyclesRemaining = s.cyclesRemaining := rfl
@[simp] theorem State.setZN_totalCycles (v) : (s.setZN v).totalCycles = s.totalCycles := rfl
@[simp] theorem State.setZN_ram (v) : (s.setZN v).ram = s.ram := rfl
@[simp] theorem State.setZN_ppu (v) : (s.setZN v).ppu = s.ppu := rfl
@[simp] theorem State.setZN_masterTicks (v) : (s.setZN v).masterTicks = s.masterTicks := rfl
@[simp] theorem State.setZN_launch (v) : (s.setZN v).launch = s.launch := rfl
@[simp] theorem State.setZN_schedule (v) : (s.setZN v).schedule = s.schedule := rfl
@[simp] theorem State.setZN_freeReads (v) : (s.setZN v).freeReads = s.freeReads := rfl

/-! ### Flags of a state, and the memory it shows -/

@[simp] theorem State.setA_flag (v f) : (s.setA v).flag f = s.flag f := rfl
@[simp] theorem State.setX_flag (v f) : (s.setX v).flag f = s.flag f := rfl
@[simp] theorem State.setY_flag (v f) : (s.setY v).flag f = s.flag f := rfl
@[simp] theorem State.setSP_flag (v f) : (s.setSP v).flag f = s.flag f := rfl
@[simp] theorem State.setP_flag (v f) : (s.setP v).flag f = getFlag f v := rfl
@[simp] theorem State.setPC_flag (v f) : (s.setPC v).flag f = s.flag f := rfl
@[simp] theorem State.setRam_flag (v f) : (s.setRam v).flag f = s.flag f := rfl
@[simp] theorem State.setPpu_flag (v f) : (s.setPpu v).flag f = s.flag f := rfl
@[simp] theorem State.setCyclesRemaining_flag (v f) : (s.setCyclesRemaining v).flag f = s.flag f := rfl
@[simp] theorem State.setTotalCycles_flag (v f) : (s.setTotalCycles v).flag f = s.flag f := rfl
@[simp] theorem State.setMasterTicks_flag (v f) : (s.setMasterTicks v).flag f = s.flag f := rfl
@[simp] theorem State.setSchedule_flag (v f) : (s.setSchedule v).flag f = s.flag f := rfl
@[simp] theorem State.setFreeReads_flag (v f) : (s.setFreeReads v).flag f = s.flag f := rfl

@[simp] theorem State.setA_byteAt (v b) : (s.setA v).byteAt b = s.byteAt b := rfl
@[simp] theorem State.setX_byteAt (v b) : (s.setX v).byteAt b = s.byteAt b := rfl
@[simp] theorem State.setY_byteAt (v b) : (s.setY v).byteAt b = s.byteAt b := rfl
@[simp] theorem State.setSP_byteAt (v b) : (s.setSP v).byteAt b = s.byteAt b := rfl
@[simp] theorem State.setP_byteAt (v b) : (s.setP v).byteAt b = s.byteAt b := rfl
@[simp] theorem State.setPC_byteAt (v b) : (s.setPC v).byteAt b = s.byteAt b := rfl
@[simp] theorem State.setPpu_byteAt (v b) : (s.setPpu v).byteAt b = s.byteAt b := rfl
@[simp] theorem State.setCyclesRemaining_byteAt (v b) : (s.setCyclesRemaining v).byteAt b = s.byteAt b := rfl
@[simp] theorem State.setTotalCycles_byteAt (v b) : (s.setTotalCycles v).byteAt b = s.byteAt b := rfl
@[simp] theorem State.setMasterTicks_byteAt (v b) : (s.setMasterTicks v).byteAt b = s.byteAt b := rfl
@[simp] theorem State.setSchedule_byteAt (v b) : (s.setSchedule v).byteAt b = s.byteAt b := rfl
@[simp] theorem State.setFreeReads_byteAt (v b) : (s.setFreeReads v).byteAt b = s.byteAt b := rfl
@[simp] theorem State.setFlag_byteAt (f v b) : (s.setFlag f v).byteAt b = s.byteAt b := rfl
@[simp] theorem State.setZN_byteAt (v b) : (s.setZN v).byteAt b = s.byteAt b := rfl

/-- What an address shows of memory depends on RAM and the launch parameters alone. -/
theorem State.byteAt_congr {s t : State} (hr : t.ram = s.ram) (hl : t.launch = s.launch) (b : Addr) :
    t.byteAt b = s.byteAt b := by
  simp only [State.byteAt, hr, hl]

/-! ### The instruction cycle's own updates (R122 steps 4, 5, 7, 8) -/

@[simp] theorem advance_a (n c) : (advance n c s).a = s.a := rfl
@[simp] theorem advance_x (n c) : (advance n c s).x = s.x := rfl
@[simp] theorem advance_y (n c) : (advance n c s).y = s.y := rfl
@[simp] theorem advance_sp (n c) : (advance n c s).sp = s.sp := rfl
@[simp] theorem advance_p (n c) : (advance n c s).p = s.p := rfl
@[simp] theorem advance_pc (n c) : (advance n c s).pc = s.pc + BitVec.ofNat 16 n := rfl
@[simp] theorem advance_cyclesRemaining (n c) : (advance n c s).cyclesRemaining = c := rfl
@[simp] theorem advance_totalCycles (n c) : (advance n c s).totalCycles = s.totalCycles := rfl
@[simp] theorem advance_ram (n c) : (advance n c s).ram = s.ram := rfl
@[simp] theorem advance_ppu (n c) : (advance n c s).ppu = s.ppu := rfl
@[simp] theorem advance_masterTicks (n c) : (advance n c s).masterTicks = s.masterTicks := rfl
@[simp] theorem advance_launch (n c) : (advance n c s).launch = s.launch := rfl
@[simp] theorem advance_schedule (n c) : (advance n c s).schedule = s.schedule := rfl
@[simp] theorem advance_freeReads (n c) : (advance n c s).freeReads = s.freeReads := rfl

@[simp] theorem retire_a : (retire s).a = s.a := rfl
@[simp] theorem retire_x : (retire s).x = s.x := rfl
@[simp] theorem retire_y : (retire s).y = s.y := rfl
@[simp] theorem retire_sp : (retire s).sp = s.sp := rfl
@[simp] theorem retire_p : (retire s).p = s.p := rfl
@[simp] theorem retire_pc : (retire s).pc = s.pc := rfl
@[simp] theorem retire_cyclesRemaining : (retire s).cyclesRemaining = s.cyclesRemaining - 1 := rfl
@[simp] theorem retire_totalCycles : (retire s).totalCycles = s.totalCycles + BitVec.ofNat 64 s.cyclesRemaining := rfl
@[simp] theorem retire_ram : (retire s).ram = s.ram := rfl
@[simp] theorem retire_ppu : (retire s).ppu = s.ppu := rfl
@[simp] theorem retire_masterTicks : (retire s).masterTicks = s.masterTicks := rfl
@[simp] theorem retire_launch : (retire s).launch = s.launch := rfl
@[simp] theorem retire_schedule : (retire s).schedule = s.schedule := rfl
@[simp] theorem retire_freeReads : (retire s).freeReads = s.freeReads := rfl

@[simp] theorem advance_byteAt (n c b) : (advance n c s).byteAt b = s.byteAt b := rfl
@[simp] theorem retire_byteAt (b) : (retire s).byteAt b = s.byteAt b := rfl
@[simp] theorem advance_flag (n c f) : (advance n c s).flag f = s.flag f := rfl
@[simp] theorem retire_flag (f) : (retire s).flag f = s.flag f := rfl

end Sys2Proof.Machine
end

