-- ==== Sys2Proof/Laws/Bus.lean ====
section
/-! SUPPORT. What a bus read and a bus write can change, said once (R51, R52), and the same for the word reads and the
stack operations built from them. -/

namespace Sys2Proof.Machine

variable (s : State)

/-- A bus read changes nothing but the PPU's interface state and the count of free reads. -/
theorem rd_frame (a : Addr) : (rd a s).2 = (s.setPpu (rd a s).2.ppu).setFreeReads (rd a s).2.freeReads := by
  unfold rd prgRead ppuRegRead
  repeat' split
  all_goals rfl

/-- A bus write changes nothing but RAM and the PPU's interface state. -/
theorem wr_frame (a : Addr) (v : Byte) : wr a v s = (s.setRam (wr a v s).ram).setPpu (wr a v s).ppu := by
  unfold wr prgWrite
  repeat' split
  all_goals rfl

@[simp] theorem rd_a (a) : (rd a s).2.a = s.a := by rw [rd_frame]; rfl
@[simp] theorem rd_x (a) : (rd a s).2.x = s.x := by rw [rd_frame]; rfl
@[simp] theorem rd_y (a) : (rd a s).2.y = s.y := by rw [rd_frame]; rfl
@[simp] theorem rd_sp (a) : (rd a s).2.sp = s.sp := by rw [rd_frame]; rfl
@[simp] theorem rd_p (a) : (rd a s).2.p = s.p := by rw [rd_frame]; rfl
@[simp] theorem rd_pc (a) : (rd a s).2.pc = s.pc := by rw [rd_frame]; rfl
@[simp] theorem rd_cyclesRemaining (a) : (rd a s).2.cyclesRemaining = s.cyclesRemaining := by rw [rd_frame]; rfl
@[simp] theorem rd_totalCycles (a) : (rd a s).2.totalCycles = s.totalCycles := by rw [rd_frame]; rfl
@[simp] theorem rd_ram (a) : (rd a s).2.ram = s.ram := by rw [rd_frame]; rfl
@[simp] theorem rd_masterTicks (a) : (rd a s).2.masterTicks = s.masterTicks := by rw [rd_frame]; rfl
@[simp] theorem rd_launch (a) : (rd a s).2.launch = s.launch := by rw [rd_frame]; rfl
@[simp] theorem rd_schedule (a) : (rd a s).2.schedule = s.schedule := by rw [rd_frame]; rfl
@[simp] theorem rd_byteAt (a b) : (rd a s).2.byteAt b = s.byteAt b := State.byteAt_congr (by simp) (by simp) b
@[simp] theorem rd_flag (a f) : (rd a s).2.flag f = s.flag f := by simp [State.flag]

@[simp] theorem wr_a (a v) : (wr a v s).a = s.a := by rw [wr_frame]; rfl
@[simp] theorem wr_x (a v) : (wr a v s).x = s.x := by rw [wr_frame]; rfl
@[simp] theorem wr_y (a v) : (wr a v s).y = s.y := by rw [wr_frame]; rfl
@[simp] theorem wr_sp (a v) : (wr a v s).sp = s.sp := by rw [wr_frame]; rfl
@[simp] theorem wr_p (a v) : (wr a v s).p = s.p := by rw [wr_frame]; rfl
@[simp] theorem wr_pc (a v) : (wr a v s).pc = s.pc := by rw [wr_frame]; rfl
@[simp] theorem wr_cyclesRemaining (a v) : (wr a v s).cyclesRemaining = s.cyclesRemaining := by rw [wr_frame]; rfl
@[simp] theorem wr_totalCycles (a v) : (wr a v s).totalCycles = s.totalCycles := by rw [wr_frame]; rfl
@[simp] theorem wr_masterTicks (a v) : (wr a v s).masterTicks = s.masterTicks := by rw [wr_frame]; rfl
@[simp] theorem wr_launch (a v) : (wr a v s).launch = s.launch := by rw [wr_frame]; rfl
@[simp] theorem wr_schedule (a v) : (wr a v s).schedule = s.schedule := by rw [wr_frame]; rfl
@[simp] theorem wr_freeReads (a v) : (wr a v s).freeReads = s.freeReads := by rw [wr_frame]; rfl
@[simp] theorem wr_flag (a v f) : (wr a v s).flag f = s.flag f := by simp [State.flag]

@[simp] theorem readWordLe_a (a) : (readWordLe a s).2.a = s.a := by simp [readWordLe]
@[simp] theorem readWordLe_x (a) : (readWordLe a s).2.x = s.x := by simp [readWordLe]
@[simp] theorem readWordLe_y (a) : (readWordLe a s).2.y = s.y := by simp [readWordLe]
@[simp] theorem readWordLe_sp (a) : (readWordLe a s).2.sp = s.sp := by simp [readWordLe]
@[simp] theorem readWordLe_p (a) : (readWordLe a s).2.p = s.p := by simp [readWordLe]
@[simp] theorem readWordLe_pc (a) : (readWordLe a s).2.pc = s.pc := by simp [readWordLe]
@[simp] theorem readWordLe_cyclesRemaining (a) : (readWordLe a s).2.cyclesRemaining = s.cyclesRemaining := by simp [readWordLe]
@[simp] theorem readWordLe_totalCycles (a) : (readWordLe a s).2.totalCycles = s.totalCycles := by simp [readWordLe]
@[simp] theorem readWordLe_ram (a) : (readWordLe a s).2.ram = s.ram := by simp [readWordLe]
@[simp] theorem readWordLe_masterTicks (a) : (readWordLe a s).2.masterTicks = s.masterTicks := by simp [readWordLe]
@[simp] theorem readWordLe_launch (a) : (readWordLe a s).2.launch = s.launch := by simp [readWordLe]
@[simp] theorem readWordLe_schedule (a) : (readWordLe a s).2.schedule = s.schedule := by simp [readWordLe]

@[simp] theorem readWordBug_a (a) : (readWordBug a s).2.a = s.a := by simp [readWordBug]
@[simp] theorem readWordBug_x (a) : (readWordBug a s).2.x = s.x := by simp [readWordBug]
@[simp] theorem readWordBug_y (a) : (readWordBug a s).2.y = s.y := by simp [readWordBug]
@[simp] theorem readWordBug_sp (a) : (readWordBug a s).2.sp = s.sp := by simp [readWordBug]
@[simp] theorem readWordBug_p (a) : (readWordBug a s).2.p = s.p := by simp [readWordBug]
@[simp] theorem readWordBug_pc (a) : (readWordBug a s).2.pc = s.pc := by simp [readWordBug]
@[simp] theorem readWordBug_cyclesRemaining (a) : (readWordBug a s).2.cyclesRemaining = s.cyclesRemaining := by simp [readWordBug]
@[simp] theorem readWordBug_totalCycles (a) : (readWordBug a s).2.totalCycles = s.totalCycles := by simp [readWordBug]
@[simp] theorem readWordBug_ram (a) : (readWordBug a s).2.ram = s.ram := by simp [readWordBug]
@[simp] theorem readWordBug_masterTicks (a) : (readWordBug a s).2.masterTicks = s.masterTicks := by simp [readWordBug]
@[simp] theorem readWordBug_launch (a) : (readWordBug a s).2.launch = s.launch := by simp [readWordBug]
@[simp] theorem readWordBug_schedule (a) : (readWordBug a s).2.schedule = s.schedule := by simp [readWordBug]

@[simp] theorem pop8_a : (pop8 s).2.a = s.a := by simp [pop8]
@[simp] theorem pop8_x : (pop8 s).2.x = s.x := by simp [pop8]
@[simp] theorem pop8_y : (pop8 s).2.y = s.y := by simp [pop8]
@[simp] theorem pop8_sp : (pop8 s).2.sp = s.sp + 1 := by simp [pop8]
@[simp] theorem pop8_p : (pop8 s).2.p = s.p := by simp [pop8]
@[simp] theorem pop8_pc : (pop8 s).2.pc = s.pc := by simp [pop8]
@[simp] theorem pop8_cyclesRemaining : (pop8 s).2.cyclesRemaining = s.cyclesRemaining := by simp [pop8]
@[simp] theorem pop8_totalCycles : (pop8 s).2.totalCycles = s.totalCycles := by simp [pop8]
@[simp] theorem pop8_ram : (pop8 s).2.ram = s.ram := by simp [pop8]
@[simp] theorem pop8_masterTicks : (pop8 s).2.masterTicks = s.masterTicks := by simp [pop8]
@[simp] theorem pop8_launch : (pop8 s).2.launch = s.launch := by simp [pop8]
@[simp] theorem pop8_schedule : (pop8 s).2.schedule = s.schedule := by simp [pop8]

@[simp] theorem pop16_a : (pop16 s).2.a = s.a := by simp [pop16]
@[simp] theorem pop16_x : (pop16 s).2.x = s.x := by simp [pop16]
@[simp] theorem pop16_y : (pop16 s).2.y = s.y := by simp [pop16]
@[simp] theorem pop16_sp : (pop16 s).2.sp = s.sp + 2 := by simp [pop16]; bv_omega
@[simp] theorem pop16_p : (pop16 s).2.p = s.p := by simp [pop16]
@[simp] theorem pop16_pc : (pop16 s).2.pc = s.pc := by simp [pop16]
@[simp] theorem pop16_cyclesRemaining : (pop16 s).2.cyclesRemaining = s.cyclesRemaining := by simp [pop16]
@[simp] theorem pop16_totalCycles : (pop16 s).2.totalCycles = s.totalCycles := by simp [pop16]
@[simp] theorem pop16_ram : (pop16 s).2.ram = s.ram := by simp [pop16]
@[simp] theorem pop16_masterTicks : (pop16 s).2.masterTicks = s.masterTicks := by simp [pop16]
@[simp] theorem pop16_launch : (pop16 s).2.launch = s.launch := by simp [pop16]
@[simp] theorem pop16_schedule : (pop16 s).2.schedule = s.schedule := by simp [pop16]

@[simp] theorem push8_a (v) : (push8 v s).a = s.a := by simp [push8]
@[simp] theorem push8_x (v) : (push8 v s).x = s.x := by simp [push8]
@[simp] theorem push8_y (v) : (push8 v s).y = s.y := by simp [push8]
@[simp] theorem push8_sp (v) : (push8 v s).sp = s.sp - 1 := by simp [push8]
@[simp] theorem push8_p (v) : (push8 v s).p = s.p := by simp [push8]
@[simp] theorem push8_pc (v) : (push8 v s).pc = s.pc := by simp [push8]
@[simp] theorem push8_cyclesRemaining (v) : (push8 v s).cyclesRemaining = s.cyclesRemaining := by simp [push8]
@[simp] theorem push8_totalCycles (v) : (push8 v s).totalCycles = s.totalCycles := by simp [push8]
@[simp] theorem push8_masterTicks (v) : (push8 v s).masterTicks = s.masterTicks := by simp [push8]
@[simp] theorem push8_launch (v) : (push8 v s).launch = s.launch := by simp [push8]
@[simp] theorem push8_schedule (v) : (push8 v s).schedule = s.schedule := by simp [push8]
@[simp] theorem push8_freeReads (v) : (push8 v s).freeReads = s.freeReads := by simp [push8]

@[simp] theorem push16_a (w) : (push16 w s).a = s.a := by simp [push16]
@[simp] theorem push16_x (w) : (push16 w s).x = s.x := by simp [push16]
@[simp] theorem push16_y (w) : (push16 w s).y = s.y := by simp [push16]
@[simp] theorem push16_sp (w) : (push16 w s).sp = s.sp - 2 := by simp [push16]; bv_omega
@[simp] theorem push16_p (w) : (push16 w s).p = s.p := by simp [push16]
@[simp] theorem push16_pc (w) : (push16 w s).pc = s.pc := by simp [push16]
@[simp] theorem push16_cyclesRemaining (w) : (push16 w s).cyclesRemaining = s.cyclesRemaining := by simp [push16]
@[simp] theorem push16_totalCycles (w) : (push16 w s).totalCycles = s.totalCycles := by simp [push16]
@[simp] theorem push16_masterTicks (w) : (push16 w s).masterTicks = s.masterTicks := by simp [push16]
@[simp] theorem push16_launch (w) : (push16 w s).launch = s.launch := by simp [push16]
@[simp] theorem push16_schedule (w) : (push16 w s).schedule = s.schedule := by simp [push16]
@[simp] theorem push16_freeReads (w) : (push16 w s).freeReads = s.freeReads := by simp [push16]

/-! ### A bus access does not see the registers -/

theorem rd_setA (a v) : rd a (s.setA v) = ((rd a s).1, (rd a s).2.setA v) := by
  unfold rd prgRead ppuRegRead; repeat' split
  all_goals rfl
theorem wr_setA (a w v) : wr a w (s.setA v) = (wr a w s).setA v := by
  unfold wr prgWrite; repeat' split
  all_goals rfl
theorem rd_setX (a v) : rd a (s.setX v) = ((rd a s).1, (rd a s).2.setX v) := by
  unfold rd prgRead ppuRegRead; repeat' split
  all_goals rfl
theorem wr_setX (a w v) : wr a w (s.setX v) = (wr a w s).setX v := by
  unfold wr prgWrite; repeat' split
  all_goals rfl
theorem rd_setY (a v) : rd a (s.setY v) = ((rd a s).1, (rd a s).2.setY v) := by
  unfold rd prgRead ppuRegRead; repeat' split
  all_goals rfl
theorem wr_setY (a w v) : wr a w (s.setY v) = (wr a w s).setY v := by
  unfold wr prgWrite; repeat' split
  all_goals rfl
theorem rd_setSP (a v) : rd a (s.setSP v) = ((rd a s).1, (rd a s).2.setSP v) := by
  unfold rd prgRead ppuRegRead; repeat' split
  all_goals rfl
theorem wr_setSP (a w v) : wr a w (s.setSP v) = (wr a w s).setSP v := by
  unfold wr prgWrite; repeat' split
  all_goals rfl
theorem rd_setP (a v) : rd a (s.setP v) = ((rd a s).1, (rd a s).2.setP v) := by
  unfold rd prgRead ppuRegRead; repeat' split
  all_goals rfl
theorem wr_setP (a w v) : wr a w (s.setP v) = (wr a w s).setP v := by
  unfold wr prgWrite; repeat' split
  all_goals rfl
theorem rd_setPC (a v) : rd a (s.setPC v) = ((rd a s).1, (rd a s).2.setPC v) := by
  unfold rd prgRead ppuRegRead; repeat' split
  all_goals rfl
theorem wr_setPC (a w v) : wr a w (s.setPC v) = (wr a w s).setPC v := by
  unfold wr prgWrite; repeat' split
  all_goals rfl
theorem rd_setCyclesRemaining (a v) : rd a (s.setCyclesRemaining v) = ((rd a s).1, (rd a s).2.setCyclesRemaining v) := by
  unfold rd prgRead ppuRegRead; repeat' split
  all_goals rfl
theorem wr_setCyclesRemaining (a w v) : wr a w (s.setCyclesRemaining v) = (wr a w s).setCyclesRemaining v := by
  unfold wr prgWrite; repeat' split
  all_goals rfl
theorem rd_setTotalCycles (a v) : rd a (s.setTotalCycles v) = ((rd a s).1, (rd a s).2.setTotalCycles v) := by
  unfold rd prgRead ppuRegRead; repeat' split
  all_goals rfl
theorem wr_setTotalCycles (a w v) : wr a w (s.setTotalCycles v) = (wr a w s).setTotalCycles v := by
  unfold wr prgWrite; repeat' split
  all_goals rfl
theorem rd_setMasterTicks (a v) : rd a (s.setMasterTicks v) = ((rd a s).1, (rd a s).2.setMasterTicks v) := by
  unfold rd prgRead ppuRegRead; repeat' split
  all_goals rfl
theorem wr_setMasterTicks (a w v) : wr a w (s.setMasterTicks v) = (wr a w s).setMasterTicks v := by
  unfold wr prgWrite; repeat' split
  all_goals rfl
theorem rd_setSchedule (a v) : rd a (s.setSchedule v) = ((rd a s).1, (rd a s).2.setSchedule v) := by
  unfold rd prgRead ppuRegRead; repeat' split
  all_goals rfl
theorem wr_setSchedule (a w v) : wr a w (s.setSchedule v) = (wr a w s).setSchedule v := by
  unfold wr prgWrite; repeat' split
  all_goals rfl

end Sys2Proof.Machine
end

