-- ==== Sys2Proof/Laws/Clock.lean ====
section
/-! SUPPORT. What a call of the CPU's `step()` does at an instruction boundary and what it reports between boundaries, and
what the gap, the dot and the NMI sample change (R121, R122, R307). -/

namespace Sys2Proof.Machine

variable (s : State)

/-! ### The CPU's step -/

/-- A stall cycle (R121): the report and the state. -/
theorem cpuCall_stall (h : 0 < s.cyclesRemaining) :
    cpuCall s = ⟨.instructionNotYetComplete, .next (s.setCyclesRemaining (s.cyclesRemaining - 1))⟩ := by
  simp only [cpuCall, h, if_true]

/-- An execute cycle (R122): what was fetched runs on the state the fetch leaves. -/
theorem cpuStep_boundary (h : s.AtBoundary) : cpuStep s = exec (fetch s).1 (fetch s).2 := by
  simp only [cpuStep, cpuCall, show ¬0 < s.cyclesRemaining by rw [h]; omega, if_false]

/-! ### The gap and the dot -/

/-- With no call due, the gap changes nothing (log 14). -/
theorem hostGap_none_due (h : ∀ e ∈ s.schedule, s.masterTicks < e.1) : hostGap s = s := by
  unfold hostGap
  generalize hl : s.schedule = l at h
  cases l with
  | nil => simp only [runDue, State.setSchedule, ← hl]
  | cons e l =>
    have : ¬e.1 ≤ s.masterTicks := by have := h e (by simp); omega
    simp only [runDue, this, if_false, State.setSchedule, ← hl]

@[simp] theorem dot_a : (dot s).a = s.a := rfl
@[simp] theorem dot_x : (dot s).x = s.x := rfl
@[simp] theorem dot_y : (dot s).y = s.y := rfl
@[simp] theorem dot_sp : (dot s).sp = s.sp := rfl
@[simp] theorem dot_p : (dot s).p = s.p := rfl
@[simp] theorem dot_pc : (dot s).pc = s.pc := rfl
@[simp] theorem dot_cyclesRemaining : (dot s).cyclesRemaining = s.cyclesRemaining := rfl
@[simp] theorem dot_totalCycles : (dot s).totalCycles = s.totalCycles := rfl
@[simp] theorem dot_ram : (dot s).ram = s.ram := rfl
@[simp] theorem dot_ppu : (dot s).ppu = ppuStep s.ppu := rfl
@[simp] theorem dot_masterTicks : (dot s).masterTicks = s.masterTicks + 1 := rfl
@[simp] theorem dot_launch : (dot s).launch = s.launch := rfl
@[simp] theorem dot_schedule : (dot s).schedule = s.schedule := rfl
@[simp] theorem dot_freeReads : (dot s).freeReads = s.freeReads := rfl
@[simp] theorem dot_byteAt (b) : (dot s).byteAt b = s.byteAt b := rfl

/-- A tick that carries no CPU step is a dot (R307). -/
theorem tick_dot (h : s.masterTicks % 3 ≠ 2) : tick s = .next (dot s) := by
  simp only [tick, dot_masterTicks, show ¬(s.masterTicks + 1) % 3 = 0 by omega, if_false]

/-- A tick that carries a CPU step (R307). -/
theorem tick_cpu (h : s.masterTicks % 3 = 2) : tick s = afterCpuStep (cpuStep (dot s)) := by
  simp only [tick, dot_masterTicks, show (s.masterTicks + 1) % 3 = 0 by omega, if_true]

end Sys2Proof.Machine
end

