-- ==== Sys2Proof/Laws/Decode.lean ====
section
/-! SUPPORT. Words and their bytes (R5). -/

namespace Sys2Proof

@[simp] theorem word_hi_lo (w : Addr) : word (hiByte w) (loByte w) = w := by
  apply BitVec.eq_of_getLsbD_eq
  intro i hi
  simp only [word, hiByte, loByte, BitVec.getLsbD_append, BitVec.getLsbD_extractLsb']
  by_cases h : i < 8
  · simp [h]
  · simp [h, show i - 8 < 8 by omega, show 8 + (i - 8) = i by omega]

@[simp] theorem hiByte_word (h l : Byte) : hiByte (word h l) = h := by
  apply BitVec.eq_of_getLsbD_eq
  intro i hi
  simp only [word, hiByte, BitVec.getLsbD_append, BitVec.getLsbD_extractLsb']
  simp [hi]

@[simp] theorem loByte_word (h l : Byte) : loByte (word h l) = l := by
  apply BitVec.eq_of_getLsbD_eq
  intro i hi
  simp only [word, loByte, BitVec.getLsbD_append, BitVec.getLsbD_extractLsb']
  simp [hi]

/-- `{hi, lo}` as a number (R5). -/
theorem word_toNat (h l : Byte) : (word h l).toNat = 256 * h.toNat + l.toNat := by
  have hl := l.isLt
  rw [word, BitVec.toNat_append, ← Nat.shiftLeft_add_eq_or_of_lt hl, Nat.shiftLeft_eq]
  omega

end Sys2Proof
end

