-- ==== Sys2Proof/Laws/Flags.lean ====
section
/-! SUPPORT. What each write of a status byte leaves in each flag, said once. -/

namespace Sys2Proof.Machine

/-- Writing one flag (R23). -/
theorem getFlag_putFlag (f g : Flag) (v : Bool) (p : Byte) :
    getFlag f (putFlag g v p) = if f = g then v else getFlag f p := by
  cases f <;> cases g <;> cases v <;> simp [getFlag, putFlag, Flag.bit]

@[simp] theorem getFlag_putFlag_same (f : Flag) (v : Bool) (p : Byte) : getFlag f (putFlag f v p) = v := by
  simp [getFlag_putFlag]

@[simp] theorem getFlag_putFlag_ne {f g : Flag} (h : f ≠ g) (v : Bool) (p : Byte) :
    getFlag f (putFlag g v p) = getFlag f p := by
  simp [getFlag_putFlag, h]

/-- `set_zn` (R141). -/
theorem getFlag_putZN (f : Flag) (v p : Byte) :
    getFlag f (putZN v p) = if f = .n then v.getLsbD 7 else if f = .z then v == 0 else getFlag f p := by
  simp only [putZN, getFlag_putFlag]

/-- The byte PHP and BRK push (R173, R240). -/
theorem getFlag_pushedWithB (f : Flag) (p : Byte) :
    getFlag f (pushedWithB p) = (decide (f = .b) || decide (f = .u) || getFlag f p) := by
  cases f <;> simp [getFlag, pushedWithB, Flag.bit]

/-- The P that PLP and RTI load (R175, R241). -/
theorem getFlag_pulledP (f : Flag) (v : Byte) :
    getFlag f (pulledP v) = if f = .b then false else if f = .u then true else getFlag f v := by
  cases f <;> simp [getFlag, pulledP, Flag.bit]

/-- P on NMI and IRQ entry (R302, R303). -/
theorem getFlag_interruptP (f : Flag) (p : Byte) :
    getFlag f (interruptP p) =
      if f = .u then true else if f = .i then true else if f = .b then false else getFlag f p := by
  simp only [interruptP, getFlag_putFlag]

/-- Bit 7 of a byte as a bound. -/
theorem getLsbD_seven (v : Byte) : v.getLsbD 7 = decide (128 ≤ v.toNat) := by
  have := v.isLt
  rw [BitVec.getLsbD, Nat.testBit_eq_decide_div_mod_eq]
  by_cases h : 128 ≤ v.toNat <;> simp [h] <;> omega

/-- A flag of a state whose flag or Z and N were written. -/
@[simp] theorem State.setFlag_flag (s : State) (f g : Flag) (v : Bool) :
    (s.setFlag g v).flag f = if f = g then v else s.flag f := getFlag_putFlag f g v s.p

@[simp] theorem State.setZN_flag (s : State) (f : Flag) (v : Byte) :
    (s.setZN v).flag f = if f = .n then v.getLsbD 7 else if f = .z then v == 0 else s.flag f := getFlag_putZN f v s.p

end Sys2Proof.Machine
end

