-- ==== Sys2Proof/Laws/Interrupts.lean ====
section
/-! SUPPORT. The regions of the bus (R51, R52), the stack's place in RAM (R22), and what taking an interrupt or returning
from one can change (R305, R312). -/

namespace Sys2Proof.Machine

variable (s : State)

/-! ### Regions -/

theorem rd_ramRegion {a : Addr} (h : a.toNat ≤ 0x1FFF) : rd a s = (s.ram.read (ramIndex a), s) := by
  simp only [rd, h, if_true]

theorem wr_ramRegion {a : Addr} (h : a.toNat ≤ 0x1FFF) (v : Byte) : wr a v s = s.setRam (s.ram.write (ramIndex a) v) := by
  simp only [wr, h, if_true]

theorem rd_prgRegion {a : Addr} (h : 0x8000 ≤ a.toNat) : rd a s = (s.launch.prg.read (prgIndex s.launch a), s) := by
  simp only [rd, prgRead, show ¬a.toNat ≤ 0x1FFF by omega, show ¬a.toNat ≤ 0x3FFF by omega, h, if_true, if_false]

theorem wr_cartRegion {a : Addr} (h : 0x4000 ≤ a.toNat) (v : Byte) : wr a v s = s := by
  simp only [wr, prgWrite, show ¬a.toNat ≤ 0x1FFF by omega, show ¬a.toNat ≤ 0x3FFF by omega, if_false]

/-- The RAM index of an address is the address modulo 2048 (R53). -/
theorem ramIndex_eq (a : Addr) : ramIndex a = a.toNat % 2048 := by
  simp only [ramIndex, BitVec.toNat_and]
  exact Nat.and_two_pow_sub_one_eq_mod _ 11

/-- The stack is page 1 (R22). -/
theorem stackAddr_toNat (sp : Byte) : (stackAddr sp).toNat = 0x0100 + sp.toNat := by
  have h := sp.isLt
  have e : stackAddr sp = BitVec.ofNat 16 (0x0100 + sp.toNat) := by
    revert sp; decide
  rw [e, BitVec.toNat_ofNat]; omega

theorem stackAddr_le (sp : Byte) : (stackAddr sp).toNat ≤ 0x1FFF := by
  have h := sp.isLt
  rw [stackAddr_toNat]; omega

/-- A push writes RAM only. -/
theorem push8_eq (v : Byte) :
    push8 v s = (s.setRam (s.ram.write (ramIndex (stackAddr s.sp)) v)).setSP (s.sp - 1) := by
  simp only [push8, wr_ramRegion s (stackAddr_le s.sp)]

/-- A pop reads RAM only. -/
theorem pop8_eq : pop8 s = (s.ram.read (ramIndex (stackAddr (s.sp + 1))), s.setSP (s.sp + 1)) := by
  simp only [pop8, rd_ramRegion _ (stackAddr_le _), State.setSP_ram]

@[simp] theorem push8_ppu (v) : (push8 v s).ppu = s.ppu := by simp [push8_eq]
@[simp] theorem push16_ppu (w) : (push16 w s).ppu = s.ppu := by simp [push16]
@[simp] theorem pop8_ppu : (pop8 s).2.ppu = s.ppu := by simp [pop8_eq]
@[simp] theorem pop8_freeReads : (pop8 s).2.freeReads = s.freeReads := by simp [pop8_eq]
@[simp] theorem pop16_ppu : (pop16 s).2.ppu = s.ppu := by simp [pop16]
@[simp] theorem pop16_freeReads : (pop16 s).2.freeReads = s.freeReads := by simp [pop16]

/-- A little-endian word from the cartridge's PRG is read without a side effect (R56, R138). -/
theorem readWordLe_prg {a : Addr} (h : 0x8000 ≤ a.toNat) (h1 : a.toNat < 0xFFFF) :
    readWordLe a s =
      (word (s.launch.prg.read (prgIndex s.launch (a + 1))) (s.launch.prg.read (prgIndex s.launch a)), s) := by
  have : (a + 1).toNat = a.toNat + 1 := by rw [BitVec.toNat_add]; simp; omega
  simp only [readWordLe, rd_prgRegion s h, rd_prgRegion s (show 0x8000 ≤ (a + 1).toNat by omega)]

/-! ### Taking an interrupt, and the return -/

/-- Taking an interrupt through a vector in PRG: what it leaves, said once. -/
theorem interrupt_eq {vector : Addr} (h : 0x8000 ≤ vector.toNat) (h1 : vector.toNat < 0xFFFF) (pushed live : Byte) :
    interrupt vector pushed live s =
      ((push8 pushed (push16 s.pc s)).setP live).setPC
        (word (s.launch.prg.read (prgIndex s.launch (vector + 1))) (s.launch.prg.read (prgIndex s.launch vector))) := by
  simp only [interrupt, readWordLe_prg _ h h1, push8_launch, push16_launch]

/-- RTI's body: P from the first byte above SP, PC from the next two. -/
theorem interruptReturn_eq :
    interruptReturn s =
      ((s.setSP (s.sp + 3)).setP (pulledP (s.ram.read (ramIndex (stackAddr (s.sp + 1)))))).setPC
        (word (s.ram.read (ramIndex (stackAddr (s.sp + 3)))) (s.ram.read (ramIndex (stackAddr (s.sp + 2))))) := by
  have h2 : s.sp + 1 + 1 = s.sp + 2 := by rw [BitVec.add_assoc]; rfl
  have h3 : s.sp + 2 + 1 = s.sp + 3 := by rw [BitVec.add_assoc]; rfl
  simp only [interruptReturn, pop16, pop8_eq, State.setP_sp, State.setSP_sp, State.setP_ram, State.setSP_ram, h2, h3]
  rfl

end Sys2Proof.Machine
end

