-- ==== Sys2Proof/Laws/Operands.lean ====
section
/-! SUPPORT. The addressing engines, the operand's read and write, and the instruction cycle: what each can change, and
what the instruction cycle answers, said once (R122 to R145). -/

namespace Sys2Proof.Machine

variable (s : State)

/-- Two states that differ in the PPU's interface state and the count of free reads at most. -/
theorem frame_congr {s t u : State} (h1 : t = (s.setPpu t.ppu).setFreeReads t.freeReads)
    (h2 : u = (t.setPpu u.ppu).setFreeReads u.freeReads) : u = (s.setPpu u.ppu).setFreeReads u.freeReads := by
  rw [h2, h1]; rfl

theorem readWordBug_frame (a : Addr) :
    (readWordBug a s).2 = (s.setPpu (readWordBug a s).2.ppu).setFreeReads (readWordBug a s).2.freeReads :=
  frame_congr (rd_frame s a) (rd_frame _ _)

/-- An engine changes nothing but the PPU's interface state and the count of free reads. -/
theorem locate_frame (o : Operand) :
    (locate o s).state = (s.setPpu (locate o s).state.ppu).setFreeReads (locate o s).state.freeReads := by
  cases o <;> first | rfl | exact readWordBug_frame s _

/-- Reading the operand changes nothing but the PPU's interface state and the count of free reads. -/
theorem readLoc_frame (l : Loc) : (readLoc l s).2 = (s.setPpu (readLoc l s).2.ppu).setFreeReads (readLoc l s).2.freeReads := by
  cases l <;> first | rfl | exact rd_frame s _

/-- Writing the operand changes nothing but A, RAM and the PPU's interface state. -/
theorem writeLoc_frame (l : Loc) (v : Byte) :
    writeLoc l v s = ((s.setA (writeLoc l v s).a).setRam (writeLoc l v s).ram).setPpu (writeLoc l v s).ppu := by
  cases l <;> first | rfl | (simp only [writeLoc, wr_a]; exact wr_frame s _ v)

@[simp] theorem locate_a (o) : (locate o s).state.a = s.a := by rw [locate_frame]; rfl
@[simp] theorem locate_x (o) : (locate o s).state.x = s.x := by rw [locate_frame]; rfl
@[simp] theorem locate_y (o) : (locate o s).state.y = s.y := by rw [locate_frame]; rfl
@[simp] theorem locate_sp (o) : (locate o s).state.sp = s.sp := by rw [locate_frame]; rfl
@[simp] theorem locate_p (o) : (locate o s).state.p = s.p := by rw [locate_frame]; rfl
@[simp] theorem locate_pc (o) : (locate o s).state.pc = s.pc := by rw [locate_frame]; rfl
@[simp] theorem locate_cyclesRemaining (o) : (locate o s).state.cyclesRemaining = s.cyclesRemaining := by rw [locate_frame]; rfl
@[simp] theorem locate_totalCycles (o) : (locate o s).state.totalCycles = s.totalCycles := by rw [locate_frame]; rfl
@[simp] theorem locate_ram (o) : (locate o s).state.ram = s.ram := by rw [locate_frame]; rfl
@[simp] theorem locate_masterTicks (o) : (locate o s).state.masterTicks = s.masterTicks := by rw [locate_frame]; rfl
@[simp] theorem locate_launch (o) : (locate o s).state.launch = s.launch := by rw [locate_frame]; rfl
@[simp] theorem locate_schedule (o) : (locate o s).state.schedule = s.schedule := by rw [locate_frame]; rfl
@[simp] theorem locate_byteAt (o b) : (locate o s).state.byteAt b = s.byteAt b := State.byteAt_congr (by simp) (by simp) b
@[simp] theorem locate_flag (o f) : (locate o s).state.flag f = s.flag f := by simp [State.flag]

@[simp] theorem readLoc_a (l) : (readLoc l s).2.a = s.a := by rw [readLoc_frame]; rfl
@[simp] theorem readLoc_x (l) : (readLoc l s).2.x = s.x := by rw [readLoc_frame]; rfl
@[simp] theorem readLoc_y (l) : (readLoc l s).2.y = s.y := by rw [readLoc_frame]; rfl
@[simp] theorem readLoc_sp (l) : (readLoc l s).2.sp = s.sp := by rw [readLoc_frame]; rfl
@[simp] theorem readLoc_p (l) : (readLoc l s).2.p = s.p := by rw [readLoc_frame]; rfl
@[simp] theorem readLoc_pc (l) : (readLoc l s).2.pc = s.pc := by rw [readLoc_frame]; rfl
@[simp] theorem readLoc_cyclesRemaining (l) : (readLoc l s).2.cyclesRemaining = s.cyclesRemaining := by rw [readLoc_frame]; rfl
@[simp] theorem readLoc_totalCycles (l) : (readLoc l s).2.totalCycles = s.totalCycles := by rw [readLoc_frame]; rfl
@[simp] theorem readLoc_ram (l) : (readLoc l s).2.ram = s.ram := by rw [readLoc_frame]; rfl
@[simp] theorem readLoc_masterTicks (l) : (readLoc l s).2.masterTicks = s.masterTicks := by rw [readLoc_frame]; rfl
@[simp] theorem readLoc_launch (l) : (readLoc l s).2.launch = s.launch := by rw [readLoc_frame]; rfl
@[simp] theorem readLoc_schedule (l) : (readLoc l s).2.schedule = s.schedule := by rw [readLoc_frame]; rfl
@[simp] theorem readLoc_byteAt (l b) : (readLoc l s).2.byteAt b = s.byteAt b := State.byteAt_congr (by simp) (by simp) b
@[simp] theorem readLoc_flag (l f) : (readLoc l s).2.flag f = s.flag f := by simp [State.flag]

@[simp] theorem writeLoc_x (l v) : (writeLoc l v s).x = s.x := by rw [writeLoc_frame]; rfl
@[simp] theorem writeLoc_y (l v) : (writeLoc l v s).y = s.y := by rw [writeLoc_frame]; rfl
@[simp] theorem writeLoc_sp (l v) : (writeLoc l v s).sp = s.sp := by rw [writeLoc_frame]; rfl
@[simp] theorem writeLoc_p (l v) : (writeLoc l v s).p = s.p := by rw [writeLoc_frame]; rfl
@[simp] theorem writeLoc_pc (l v) : (writeLoc l v s).pc = s.pc := by rw [writeLoc_frame]; rfl
@[simp] theorem writeLoc_cyclesRemaining (l v) : (writeLoc l v s).cyclesRemaining = s.cyclesRemaining := by rw [writeLoc_frame]; rfl
@[simp] theorem writeLoc_totalCycles (l v) : (writeLoc l v s).totalCycles = s.totalCycles := by rw [writeLoc_frame]; rfl
@[simp] theorem writeLoc_masterTicks (l v) : (writeLoc l v s).masterTicks = s.masterTicks := by rw [writeLoc_frame]; rfl
@[simp] theorem writeLoc_launch (l v) : (writeLoc l v s).launch = s.launch := by rw [writeLoc_frame]; rfl
@[simp] theorem writeLoc_schedule (l v) : (writeLoc l v s).schedule = s.schedule := by rw [writeLoc_frame]; rfl
@[simp] theorem writeLoc_freeReads (l v) : (writeLoc l v s).freeReads = s.freeReads := by rw [writeLoc_frame]; rfl
@[simp] theorem writeLoc_flag (l v f) : (writeLoc l v s).flag f = s.flag f := by simp [State.flag]
@[simp] theorem writeLoc_mem_a (ea v) : (writeLoc (.mem ea) v s).a = s.a := wr_a s ea v

/-! ### The instruction cycle does not disturb a bus access -/

theorem rd_advance (a : Addr) (n c : Nat) : rd a (advance n c s) = ((rd a s).1, advance n c (rd a s).2) := by
  simp only [advance, rd_setPC, rd_setCyclesRemaining, rd_pc]

theorem wr_advance (a : Addr) (v : Byte) (n c : Nat) : wr a v (advance n c s) = advance n c (wr a v s) := by
  simp only [advance, wr_setPC, wr_setCyclesRemaining, wr_pc]

theorem readLoc_advance (l : Loc) (n c : Nat) :
    readLoc l (advance n c s) = ((readLoc l s).1, advance n c (readLoc l s).2) := by
  cases l <;> first | rfl | exact rd_advance s _ n c

theorem writeLoc_advance (l : Loc) (v : Byte) (n c : Nat) :
    writeLoc l v (advance n c s) = advance n c (writeLoc l v s) := by
  cases l <;> first | rfl | exact wr_advance s _ v n c

/-! ### What the instruction cycle answers (R122 steps 3 to 8) -/

/-- An instruction without an operand answers the state its body leaves, retired. -/
theorem runImplied_next (n c : Nat) (body : State → State) :
    runImplied n c body s = .next (retire (body (advance n c s))) := rfl

/-- A reading instruction uses its operand on the state after the one read, past the instruction. -/
theorem runOperand_withOperand (c : Cost) (o : Operand) (use : Byte → State → State) :
    runOperand c o (withOperand use) s =
      .next (retire (use (readLoc (locate o s).loc (locate o s).state).1
        (advance (operandSize o) (c.charged (locate o s).crossed) (readLoc (locate o s).loc (locate o s).state).2))) := by
  simp only [runOperand, withOperand, readLoc_advance]

/-- A storing instruction writes the byte at the operand's place, on the state the engine leaves. -/
theorem runOperand_storing (c : Cost) (o : Operand) (v : State → Byte) :
    runOperand c o (storing v) s =
      .next (retire (writeLoc (locate o s).loc
        (v (advance (operandSize o) (c.charged (locate o s).crossed) (locate o s).state))
        (advance (operandSize o) (c.charged (locate o s).crossed) (locate o s).state))) := rfl

/-- A read-modify-write instruction reads once, writes once, then goes on. -/
theorem runOperand_modifying (c : Cost) (o : Operand) (f : Byte → State → Byte) (g : Byte → Byte → State → State) :
    runOperand c o (modifying f g) s =
      (let m := readLoc (locate o s).loc (locate o s).state
       let t := advance (operandSize o) (c.charged (locate o s).crossed) m.2
       .next (retire (g m.1 (f m.1 t) (writeLoc (locate o s).loc (f m.1 t) t)))) := by
  simp only [runOperand, modifying, readLoc_advance]

/-- Every instruction that is run through its operand answers a next state. -/
theorem runOperand_completes (c : Cost) (o : Operand) (body : Loc → State → State) : Completes (runOperand c o body s) :=
  ⟨_, rfl⟩

theorem runImplied_completes (n c : Nat) (body : State → State) : Completes (runImplied n c body s) := ⟨_, rfl⟩

end Sys2Proof.Machine
end

