-- ==== Sys2Proof/Laws/PerInstr.lean ====
section
/-! SUPPORT. Statements about every instruction as syntax, one lemma per constructor. -/

/-- The table gives an opcode byte to exactly the well-formed instructions (30_encoding.md R99, R100). -/
def Sys2Proof.Laws.HasOpcode.Statement (i : Sys2Proof.Instr) : Prop := i.wf = (Sys2Proof.opcode i).isSome

namespace Sys2Proof.Laws.HasOpcode

theorem lda (o : Operand) : Statement (.lda o) := by cases o <;> rfl
theorem ldx (o : Operand) : Statement (.ldx o) := by cases o <;> rfl
theorem ldy (o : Operand) : Statement (.ldy o) := by cases o <;> rfl
theorem sta (o : Operand) : Statement (.sta o) := by cases o <;> rfl
theorem stx (o : Operand) : Statement (.stx o) := by cases o <;> rfl
theorem sty (o : Operand) : Statement (.sty o) := by cases o <;> rfl
theorem tax : Statement (.tax) := rfl
theorem tay : Statement (.tay) := rfl
theorem txa : Statement (.txa) := rfl
theorem tya : Statement (.tya) := rfl
theorem tsx : Statement (.tsx) := rfl
theorem txs : Statement (.txs) := rfl
theorem pha : Statement (.pha) := rfl
theorem php : Statement (.php) := rfl
theorem pla : Statement (.pla) := rfl
theorem plp : Statement (.plp) := rfl
theorem and (o : Operand) : Statement (.and o) := by cases o <;> rfl
theorem ora (o : Operand) : Statement (.ora o) := by cases o <;> rfl
theorem eor (o : Operand) : Statement (.eor o) := by cases o <;> rfl
theorem asl (o : Operand) : Statement (.asl o) := by cases o <;> rfl
theorem lsr (o : Operand) : Statement (.lsr o) := by cases o <;> rfl
theorem rol (o : Operand) : Statement (.rol o) := by cases o <;> rfl
theorem ror (o : Operand) : Statement (.ror o) := by cases o <;> rfl
theorem adc (o : Operand) : Statement (.adc o) := by cases o <;> rfl
theorem sbc (o : Operand) : Statement (.sbc o) := by cases o <;> rfl
theorem cmp (o : Operand) : Statement (.cmp o) := by cases o <;> rfl
theorem cpx (o : Operand) : Statement (.cpx o) := by cases o <;> rfl
theorem cpy (o : Operand) : Statement (.cpy o) := by cases o <;> rfl
theorem inc (o : Operand) : Statement (.inc o) := by cases o <;> rfl
theorem dec (o : Operand) : Statement (.dec o) := by cases o <;> rfl
theorem inx : Statement (.inx) := rfl
theorem dex : Statement (.dex) := rfl
theorem iny : Statement (.iny) := rfl
theorem dey : Statement (.dey) := rfl
theorem bcc (off : Byte) : Statement (.bcc off) := rfl
theorem bcs (off : Byte) : Statement (.bcs off) := rfl
theorem beq (off : Byte) : Statement (.beq off) := rfl
theorem bne (off : Byte) : Statement (.bne off) := rfl
theorem bmi (off : Byte) : Statement (.bmi off) := rfl
theorem bpl (off : Byte) : Statement (.bpl off) := rfl
theorem bvc (off : Byte) : Statement (.bvc off) := rfl
theorem bvs (off : Byte) : Statement (.bvs off) := rfl
theorem jmp (o : Operand) : Statement (.jmp o) := by cases o <;> rfl
theorem jsr (target : Addr) : Statement (.jsr target) := rfl
theorem rts : Statement (.rts) := rfl
theorem bit (o : Operand) : Statement (.bit o) := by cases o <;> rfl
theorem clc : Statement (.clc) := rfl
theorem sec : Statement (.sec) := rfl
theorem cli : Statement (.cli) := rfl
theorem sei : Statement (.sei) := rfl
theorem cld : Statement (.cld) := rfl
theorem sed : Statement (.sed) := rfl
theorem clv : Statement (.clv) := rfl
theorem brk : Statement (.brk) := rfl
theorem rti : Statement (.rti) := rfl
theorem nop : Statement (.nop) := rfl
theorem slo (o : Operand) : Statement (.slo o) := by cases o <;> rfl
theorem rla (o : Operand) : Statement (.rla o) := by cases o <;> rfl
theorem sre (o : Operand) : Statement (.sre o) := by cases o <;> rfl
theorem rra (o : Operand) : Statement (.rra o) := by cases o <;> rfl
theorem sax (o : Operand) : Statement (.sax o) := by cases o <;> rfl
theorem lax (o : Operand) : Statement (.lax o) := by cases o <;> rfl
theorem dcp (o : Operand) : Statement (.dcp o) := by cases o <;> rfl
theorem isc (o : Operand) : Statement (.isc o) := by cases o <;> rfl
theorem anc (k : Fin 2) (v : Byte) : Statement (.anc k v) := rfl
theorem alr (v : Byte) : Statement (.alr v) := rfl
theorem arr (v : Byte) : Statement (.arr v) := rfl
theorem axs (v : Byte) : Statement (.axs v) := rfl
theorem las (a : Addr) : Statement (.las a) := rfl
theorem nopUndoc (f : NopForm) : Statement (.nopUndoc f) := rfl
theorem sbcUndoc (v : Byte) : Statement (.sbcUndoc v) := rfl
theorem xaa : Statement (.xaa) := rfl
theorem ahx (o : Operand) : Statement (.ahx o) := by cases o <;> rfl
theorem shx (a : Addr) : Statement (.shx a) := rfl
theorem shy (a : Addr) : Statement (.shy a) := rfl
theorem tas (a : Addr) : Statement (.tas a) := rfl
theorem lxa : Statement (.lxa) := rfl
theorem jam (k : Fin 12) : Statement (.jam k) := rfl

end Sys2Proof.Laws.HasOpcode
end

