-- ==== Sys2Proof/Tests/Slice0.lean ====
section
/-! SUPPORT. Tests, each against the spec: ill-formed instructions refused, decodings of words the rules' "Encodings"
give, single instructions (test_V<n> is vector V<n> of 95_test_vectors.md, whose state is the reset state with prg_len
32768 but for what the row sets), the bus and the PPU window, reset and interrupts, the clock, and for each obligation
with hypotheses a state and operands that meet them (test_meets_<obligation>). -/

namespace Sys2Proof.Tests

open Sys2Proof Sys2Proof.Machine Sys2Proof.Claims

/-! ### Helpers -/

/-- The reset state: A = X = Y = 00, SP = FD, P = 24, prg_len = 32768. -/
def s0 : State := State.reset

/-- The next state, if there is one. -/
def nextOf : Host.Outcome State Fault Refusal → State → State
  | .next t, _ => t
  | .fault _, s => s
  | .refused _, s => s

/-- Place bytes from an address on. -/
def place : Addr → List Byte → State → State
  | _, [], s => s
  | a, b :: bs, s => place (a + 1) bs (placeByte a b s)

/-- Place an instruction's bytes, start there, take one CPU step. -/
def run1 (pc : Addr) (bytes : List Byte) (s : State) : State :=
  let t := (place pc bytes s).setPC pc
  nextOf (cpuStep t) t

/-- The registers, the cycles charged, and some bytes of RAM or PRG are these. -/
def shows (s : State) (a x y sp p : Byte) (pc : Addr) (cycles : Nat) (bytes : List (Addr × Byte)) : Bool :=
  s.a == a && s.x == x && s.y == y && s.sp == sp && s.p == p && s.pc == pc &&
  s.totalCycles == BitVec.ofNat 64 cycles && s.cyclesRemaining == cycles - 1 &&
  bytes.all fun e => s.byteAt e.1 == some e.2

/-- Every word decodes to its instruction, and is what the encoder writes for it. -/
def reads (words : List (List Byte × Instr)) : Bool :=
  words.all fun w => (decode w.1).toOption == some w.2 && encode w.2 == w.1

/-- The check refuses every one of these. -/
def refuses (is : List Instr) : Bool := is.all fun i => !i.wf

/-! ### Well-formedness refuses an instruction outside its forms -/

theorem test_illformed_loads : refuses [.lda .acc, .lda (.zpy 0), .lda (.ind 0), .ldx (.zpx 0), .ldx (.abx 0), .ldx (.izx 0),
    .ldy (.zpy 0), .ldy (.aby 0), .ldy (.izy 0)] = true := by decide

theorem test_illformed_stores : refuses [.sta (.imm 0), .sta .acc, .sta (.zpy 0), .stx (.imm 0), .stx (.zpx 0), .stx (.aby 0),
    .sty (.imm 0), .sty (.zpy 0), .sty (.abx 0)] = true := by decide

theorem test_illformed_logic : refuses [.and .acc, .ora (.zpy 0), .eor (.ind 0), .adc .acc, .sbc (.zpy 0), .cmp (.ind 0),
    .cpx (.zpx 0), .cpy (.abx 0), .bit (.imm 0), .bit (.zpx 0)] = true := by decide

theorem test_illformed_modify : refuses [.asl (.imm 0), .lsr (.aby 0), .rol (.izx 0), .ror (.izy 0), .inc .acc, .inc (.imm 0),
    .dec (.aby 0), .dec (.zpy 0)] = true := by decide

theorem test_illformed_jump : refuses [.jmp (.zp 0), .jmp (.imm 0), .jmp .acc, .jmp (.abx 0)] = true := by decide

theorem test_illformed_undocumented : refuses [.slo (.imm 0), .rla .acc, .sre (.zpy 0), .rra (.ind 0), .sax (.imm 0),
    .sax (.aby 0), .lax (.imm 0), .lax (.zpx 0), .dcp (.imm 0), .isc .acc, .ahx (.abs 0), .ahx (.izx 0)] = true := by decide

/-- A word too short for its operand bytes is refused by name. -/
theorem test_decode_rejects : decode [] = .error .noOpcode ∧ decode [0xA9] = .error .operandMissing ∧
    decode [0x8D, 0x00] = .error .operandMissing := ⟨rfl, rfl, rfl⟩

/-! ### Decoding: one or more words of every constructor, from the "Encodings" of its rule -/

theorem test_decode_load : reads [([0xA9, 0x42], .lda (.imm 0x42)), ([0xBD, 0x34, 0x12], .lda (.abx 0x1234)),
    ([0xB6, 0x80], .ldx (.zpy 0x80)), ([0xBE, 0x34, 0x12], .ldx (.aby 0x1234)), ([0xA0, 0xFF], .ldy (.imm 0xFF)),
    ([0xB4, 0x10], .ldy (.zpx 0x10))] = true := by decide

theorem test_decode_store : reads [([0x8D, 0x00, 0x02], .sta (.abs 0x0200)), ([0x91, 0x20], .sta (.izy 0x20)),
    ([0x96, 0x10], .stx (.zpy 0x10)), ([0x8C, 0x34, 0x12], .sty (.abs 0x1234)), ([0x94, 0x10], .sty (.zpx 0x10))] = true := by
  decide

theorem test_decode_transfer : reads [([0xAA], .tax), ([0xA8], .tay), ([0x8A], .txa), ([0x98], .tya), ([0xBA], .tsx),
    ([0x9A], .txs)] = true := by decide

theorem test_decode_stack : reads [([0x48], .pha), ([0x08], .php), ([0x68], .pla), ([0x28], .plp)] = true := by decide

theorem test_decode_logic : reads [([0x29, 0x3C], .and (.imm 0x3C)), ([0x21, 0x10], .and (.izx 0x10)),
    ([0x09, 0x80], .ora (.imm 0x80)), ([0x11, 0x10], .ora (.izy 0x10)), ([0x49, 0xAA], .eor (.imm 0xAA)),
    ([0x5D, 0x34, 0x12], .eor (.abx 0x1234))] = true := by decide

theorem test_decode_shift : reads [([0x0A], .asl .acc), ([0x06, 0x10], .asl (.zp 0x10)), ([0x4A], .lsr .acc),
    ([0x56, 0x10], .lsr (.zpx 0x10)), ([0x2A], .rol .acc), ([0x2E, 0x34, 0x12], .rol (.abs 0x1234)), ([0x6A], .ror .acc),
    ([0x7E, 0xFF, 0x02], .ror (.abx 0x02FF))] = true := by decide

theorem test_decode_arithmetic : reads [([0x69, 0x50], .adc (.imm 0x50)), ([0x79, 0x34, 0x12], .adc (.aby 0x1234)),
    ([0xE9, 0x10], .sbc (.imm 0x10)), ([0xE1, 0x10], .sbc (.izx 0x10)), ([0xC9, 0x40], .cmp (.imm 0x40)),
    ([0xD5, 0x10], .cmp (.zpx 0x10)), ([0xE0, 0x10], .cpx (.imm 0x10)), ([0xEC, 0x34, 0x12], .cpx (.abs 0x1234)),
    ([0xC0, 0x00], .cpy (.imm 0x00)), ([0xC4, 0x10], .cpy (.zp 0x10))] = true := by decide

theorem test_decode_step : reads [([0xE6, 0x10], .inc (.zp 0x10)), ([0xEE, 0x00, 0x80], .inc (.abs 0x8000)),
    ([0xC6, 0x10], .dec (.zp 0x10)), ([0xDE, 0x34, 0x12], .dec (.abx 0x1234)), ([0xE8], .inx), ([0xCA], .dex), ([0xC8], .iny),
    ([0x88], .dey)] = true := by decide

theorem test_decode_branch : reads [([0x90, 0x05], .bcc 0x05), ([0xB0, 0x05], .bcs 0x05), ([0xF0, 0x02], .beq 0x02),
    ([0xD0, 0xFB], .bne 0xFB), ([0x30, 0x7F], .bmi 0x7F), ([0x10, 0x80], .bpl 0x80), ([0x50, 0x10], .bvc 0x10),
    ([0x70, 0x10], .bvs 0x10)] = true := by decide

theorem test_decode_jump : reads [([0x4C, 0x34, 0x12], .jmp (.abs 0x1234)), ([0x6C, 0xFF, 0x02], .jmp (.ind 0x02FF)),
    ([0x20, 0x34, 0x12], .jsr 0x1234), ([0x60], .rts), ([0x24, 0x10], .bit (.zp 0x10)), ([0x2C, 0x02, 0x20], .bit (.abs 0x2002)),
    ([0x00, 0x00], .brk), ([0x40], .rti), ([0xEA], .nop)] = true := by decide

theorem test_decode_flag : reads [([0x18], .clc), ([0x38], .sec), ([0x58], .cli), ([0x78], .sei), ([0xD8], .cld), ([0xF8], .sed),
    ([0xB8], .clv)] = true := by decide

theorem test_decode_combined : reads [([0x07, 0x10], .slo (.zp 0x10)), ([0x1B, 0x34, 0x12], .slo (.aby 0x1234)),
    ([0x27, 0x10], .rla (.zp 0x10)), ([0x23, 0x10], .rla (.izx 0x10)), ([0x47, 0x10], .sre (.zp 0x10)),
    ([0x53, 0x10], .sre (.izy 0x10)), ([0x67, 0x10], .rra (.zp 0x10)), ([0x7F, 0x34, 0x12], .rra (.abx 0x1234)),
    ([0x87, 0x10], .sax (.zp 0x10)), ([0x97, 0x10], .sax (.zpy 0x10)), ([0xA7, 0x10], .lax (.zp 0x10)),
    ([0xBF, 0xFF, 0x02], .lax (.aby 0x02FF)), ([0xC7, 0x10], .dcp (.zp 0x10)), ([0xDB, 0x34, 0x12], .dcp (.aby 0x1234)),
    ([0xE7, 0x10], .isc (.zp 0x10)), ([0xFF, 0x34, 0x12], .isc (.abx 0x1234))] = true := by decide

theorem test_decode_immediate : reads [([0x0B, 0x80], .anc 0 0x80), ([0x2B, 0x80], .anc 1 0x80), ([0x4B, 0x03], .alr 0x03),
    ([0x6B, 0xFF], .arr 0xFF), ([0xCB, 0x10], .axs 0x10), ([0xBB, 0x00, 0x03], .las 0x0300), ([0xEB, 0x10], .sbcUndoc 0x10)]
    = true := by decide

theorem test_decode_nop : reads [([0x1A], .nopUndoc (.imp 0)), ([0xFA], .nopUndoc (.imp 5)), ([0x80, 0x00], .nopUndoc (.imm 0)),
    ([0xE2, 0x00], .nopUndoc (.imm 4)), ([0x04, 0x10], .nopUndoc (.zp 0 0x10)), ([0xF4, 0x10], .nopUndoc (.zpx 5 0x10)),
    ([0x0C, 0x00, 0x03], .nopUndoc (.abs 0x0300)), ([0x1C, 0xFF, 0x02], .nopUndoc (.abx 0 0x02FF))] = true := by decide

theorem test_decode_unstable : reads [([0x8B, 0x00], .xaa), ([0x9F, 0x00, 0x02], .ahx (.aby 0x0200)),
    ([0x93, 0x10], .ahx (.izy 0x10)), ([0x9E, 0x00, 0x02], .shx 0x0200), ([0x9C, 0x00, 0x02], .shy 0x0200),
    ([0x9B, 0x00, 0x02], .tas 0x0200), ([0xAB, 0x00], .lxa), ([0x02], .jam 0), ([0xF2], .jam 11)] = true := by decide

/-- The byte after an opcode that never reads it may be anything (R240, R274, R276, R281). -/
theorem test_decode_unread_byte : decode [0x00, 0xEA] = .ok .brk ∧ decode [0x80, 0xFF] = .ok (.nopUndoc (.imm 0)) ∧
    decode [0x8B, 0x55] = .ok .xaa ∧ decode [0xAB, 0xFF] = .ok .lxa := ⟨rfl, rfl, rfl, rfl⟩

/-- A table word, bit 0 the least significant bit of the opcode byte; bits above its length are 0. -/
theorem test_decode_table_word : decodeTableWord 24 0x02FF6C = some (.jmp (.ind 0x02FF)) ∧
    decodeTableWord 8 0x42A9 = some (.lda (.imm 0x00)) := by decide

/-! ### One instruction each: registers, P, PC and cycles -/

/-- izx: pointer index wraps, pointer at FF/00 -/
theorem test_V10 : shows (run1 0x0200 [0xA1, 0xFE] { s0 with x := 0x01, ram := [(0x000, 0x03), (0x0FF, 0x34), (0x334, 0x5A)] }) 0x5A 0x01 0x00 0xFD 0x24 0x0202 6 [] = true := by decide

/-- izy, cross: 6 cycles; pointer at FF wraps to 00 -/
theorem test_V12 : shows (run1 0x0200 [0xB1, 0xFF] { s0 with y := 0x01, ram := [(0x000, 0x02), (0x0FF, 0xFF), (0x300, 0x13)] }) 0x13 0x00 0x01 0xFD 0x24 0x0202 6 [] = true := by decide

/-- izy store: always 6 -/
theorem test_V13 : shows (run1 0x0200 [0x91, 0x20] { s0 with a := 0xAB, y := 0xFF, ram := [(0x020, 0x01), (0x021, 0x03)] }) 0xAB 0x00 0xFF 0xFD 0x24 0x0202 6 [(0x0400, 0xAB)] = true := by decide

/-- JMP ind with the wrap (pointer 03FF: high from 0300) -/
theorem test_V15 : shows (run1 0x0200 [0x6C, 0xFF, 0x03] { s0 with ram := [(0x300, 0x56), (0x3FF, 0x78), (0x400, 0x99)] }) 0x00 0x00 0x00 0xFD 0x24 0x5678 5 [] = true := by decide

/-- LDX #80 sets N -/
theorem test_V21 : shows (run1 0x0200 [0xA2, 0x80] s0) 0x00 0x80 0x00 0xFD 0xA4 0x0202 2 [] = true := by decide

/-- STA to RAM mirror 1810 writes ram[010] -/
theorem test_V23 : shows (run1 0x0200 [0x8D, 0x10, 0x18] { s0 with a := 0x77 }) 0x77 0x00 0x00 0xFD 0x24 0x0203 4 [(0x0010, 0x77)] = true := by decide

/-- TXS sets no flags -/
theorem test_V24 : shows (run1 0x0200 [0x9A] { s0 with x := 0x00, p := 0xA4 }) 0x00 0x00 0x00 0x00 0xA4 0x0201 2 [] = true := by decide

/-- TSX sets flags from X -/
theorem test_V25 : shows (run1 0x0200 [0xBA] { s0 with sp := 0x00, p := 0xA4 }) 0x00 0x00 0x00 0x00 0x26 0x0201 2 [] = true := by decide

/-- PHA with SP=00 wraps -/
theorem test_V26 : shows (run1 0x0200 [0x48] { s0 with a := 0x42, sp := 0x00 }) 0x42 0x00 0x00 0xFF 0x24 0x0201 3 [(0x0100, 0x42)] = true := by decide

/-- PLA with SP=FF wraps -/
theorem test_V27 : shows (run1 0x0200 [0x68] { s0 with sp := 0xFF, ram := [(0x100, 0x80)] }) 0x80 0x00 0x00 0x00 0xA4 0x0201 4 [] = true := by decide

/-- PHP pushes P with B and U set -/
theorem test_V28 : shows (run1 0x0200 [0x08] { s0 with p := 0xE5 }) 0x00 0x00 0x00 0xFC 0xE5 0x0201 3 [(0x01FD, 0xF5)] = true := by decide

/-- PLP forces B=0 U=1 -/
theorem test_V29 : shows (run1 0x0200 [0x28] { s0 with sp := 0xFC, ram := [(0x1FD, 0xFF)] }) 0x00 0x00 0x00 0xFD 0xEF 0x0201 4 [] = true := by decide

/-- AND -/
theorem test_V40 : shows (run1 0x0200 [0x29, 0x3C] { s0 with a := 0xF0 }) 0x30 0x00 0x00 0xFD 0x24 0x0202 2 [] = true := by decide

/-- ORA -/
theorem test_V41 : shows (run1 0x0200 [0x09, 0x80] { s0 with a := 0x0F }) 0x8F 0x00 0x00 0xFD 0xA4 0x0202 2 [] = true := by decide

/-- ASL A: 80 gives 00, C=1 Z=1 -/
theorem test_V43 : shows (run1 0x0200 [0x0A] { s0 with a := 0x80 }) 0x00 0x00 0x00 0xFD 0x27 0x0201 2 [] = true := by decide

/-- ASL zp memory -/
theorem test_V44 : shows (run1 0x0200 [0x06, 0x10] { s0 with ram := [(0x010, 0x41)] }) 0x00 0x00 0x00 0xFD 0xA4 0x0202 5 [(0x0010, 0x82)] = true := by decide

/-- LSR A: 01 gives 00, C=1 Z=1 -/
theorem test_V45 : shows (run1 0x0200 [0x4A] { s0 with a := 0x01 }) 0x00 0x00 0x00 0xFD 0x27 0x0201 2 [] = true := by decide

/-- ROL A with C=1 -/
theorem test_V46 : shows (run1 0x0200 [0x2A] { s0 with a := 0x40, p := 0x25 }) 0x81 0x00 0x00 0xFD 0xA4 0x0201 2 [] = true := by decide

/-- ROR A with C=1 -/
theorem test_V47 : shows (run1 0x0200 [0x6A] { s0 with a := 0x02, p := 0x25 }) 0x81 0x00 0x00 0xFD 0xA4 0x0201 2 [] = true := by decide

/-- ROR abx memory: flat 7 cycles even on page cross -/
theorem test_V48 : shows (run1 0x0200 [0x7E, 0xFF, 0x02] { s0 with x := 0x01, ram := [(0x300, 0x01)] }) 0x00 0x01 0x00 0xFD 0x27 0x0203 7 [(0x0300, 0x00)] = true := by decide

/-- ADC 80+80: C V Z -/
theorem test_V63 : shows (run1 0x0200 [0x69, 0x80] { s0 with a := 0x80 }) 0x00 0x00 0x00 0xFD 0x67 0x0202 2 [] = true := by decide

/-- ADC with D=1 is still binary: 09+01=0A -/
theorem test_V64 : shows (run1 0x0200 [0x69, 0x01] { s0 with a := 0x09, p := 0x2C }) 0x0A 0x00 0x00 0xFD 0x2C 0x0202 2 [] = true := by decide

/-- SBC 50-10, C=0 (borrow in) -/
theorem test_V66 : shows (run1 0x0200 [0xE9, 0x10] { s0 with a := 0x50, p := 0x24 }) 0x3F 0x00 0x00 0xFD 0x25 0x0202 2 [] = true := by decide

/-- SBC 80-01: V -/
theorem test_V68 : shows (run1 0x0200 [0xE9, 0x01] { s0 with a := 0x80, p := 0x25 }) 0x7F 0x00 0x00 0xFD 0x65 0x0202 2 [] = true := by decide

/-- CMP less -/
theorem test_V71 : shows (run1 0x0200 [0xC9, 0x41] { s0 with a := 0x40 }) 0x40 0x00 0x00 0xFD 0xA4 0x0202 2 [] = true := by decide

/-- CMP 00 with 81: N from wrapped difference 7F -/
theorem test_V72 : shows (run1 0x0200 [0xC9, 0x81] { s0 with a := 0x00 }) 0x00 0x00 0x00 0xFD 0x24 0x0202 2 [] = true := by decide

/-- CPX -/
theorem test_V74 : shows (run1 0x0200 [0xE0, 0x10] { s0 with x := 0x10 }) 0x00 0x10 0x00 0xFD 0x27 0x0202 2 [] = true := by decide

/-- CPY -/
theorem test_V75 : shows (run1 0x0200 [0xC0, 0x00] { s0 with y := 0xFF }) 0x00 0x00 0xFF 0xFD 0xA5 0x0202 2 [] = true := by decide

/-- INC FF wraps, C untouched -/
theorem test_V76 : shows (run1 0x0200 [0xE6, 0x10] { s0 with p := 0x25, ram := [(0x010, 0xFF)] }) 0x00 0x00 0x00 0xFD 0x27 0x0202 5 [(0x0010, 0x00)] = true := by decide

/-- DEC 00 wraps -/
theorem test_V77 : shows (run1 0x0200 [0xC6, 0x10] s0) 0x00 0x00 0x00 0xFD 0xA4 0x0202 5 [(0x0010, 0xFF)] = true := by decide

/-- INX FF wraps -/
theorem test_V78 : shows (run1 0x0200 [0xE8] { s0 with x := 0xFF }) 0x00 0x00 0x00 0xFD 0x26 0x0201 2 [] = true := by decide

/-- DEY 00 wraps -/
theorem test_V79 : shows (run1 0x0200 [0x88] { s0 with y := 0x00 }) 0x00 0x00 0xFF 0xFD 0xA4 0x0201 2 [] = true := by decide

/-- INC on PRG: write discarded, flags from result -/
theorem test_V80 : shows (run1 0x0200 [0xEE, 0x00, 0x80] (placeByte 0x8000 0x7F s0)) 0x00 0x00 0x00 0xFD 0xA4 0x0203 6 [(0x8000, 0x7F)] = true := by decide

/-- branch not taken: 2 -/
theorem test_V90 : shows (run1 0x8000 [0xB0, 0x05] s0) 0x00 0x00 0x00 0xFD 0x24 0x8002 2 [] = true := by decide

/-- branch taken, same page: 3 -/
theorem test_V91 : shows (run1 0x8000 [0x90, 0x05] s0) 0x00 0x00 0x00 0xFD 0x24 0x8007 3 [] = true := by decide

/-- taken, backward into previous page: 4 -/
theorem test_V92 : shows (run1 0x8000 [0x10, 0x80] s0) 0x00 0x00 0x00 0xFD 0x24 0x7F82 4 [] = true := by decide

/-- GS scenario 3: opcode at 00FE, target 0102: 4 -/
theorem test_V93 : shows (run1 0x00FE [0xF0, 0x02] { s0 with p := 0x26 }) 0x00 0x00 0x00 0xFD 0x26 0x0102 4 [] = true := by decide

/-- opcode at 80FD, target 8101 (next instr 80FF): 4 under both settings -/
theorem test_V95 : shows (run1 0x80FD [0xD0, 0x02] s0) 0x00 0x00 0x00 0xFD 0x24 0x8101 4 [] = true := by decide

/-- JMP abs -/
theorem test_V97 : shows (run1 0x8000 [0x4C, 0x34, 0x12] s0) 0x00 0x00 0x00 0xFD 0x24 0x1234 3 [] = true := by decide

/-- JSR pushes opcode address + 2 -/
theorem test_V98 : shows (run1 0x8000 [0x20, 0x34, 0x12] s0) 0x00 0x00 0x00 0xFB 0x24 0x1234 6 [(0x01FD, 0x80), (0x01FC, 0x02)] = true := by decide

/-- RTS adds 1; popped FFFF gives 0000 -/
theorem test_V99 : shows (run1 0x8000 [0x60] { s0 with sp := 0xFB, ram := [(0x1FC, 0xFF), (0x1FD, 0xFF)] }) 0x00 0x00 0x00 0xFD 0x24 0x0000 6 [] = true := by decide

/-- BIT: N,V from memory, Z from A and M -/
theorem test_V100 : shows (run1 0x0200 [0x24, 0x10] { s0 with a := 0x01, ram := [(0x010, 0xC0)] }) 0x01 0x00 0x00 0xFD 0xE6 0x0202 3 [] = true := by decide

/-- BIT: nonzero and, bits 7,6 clear, clears old N V -/
theorem test_V101 : shows (run1 0x0200 [0x24, 0x10] { s0 with a := 0x0F, p := 0xE4, ram := [(0x010, 0x01)] }) 0x0F 0x00 0x00 0xFD 0x24 0x0202 3 [] = true := by decide

/-- BRK (BRK_PAD=1), vector 9000 -/
theorem test_V104 : shows (run1 0x8000 [0x00, 0xEA] (placeByte 0xFFFF 0x90 (placeByte 0xFFFE 0x00 s0))) 0x00 0x00 0x00 0xFA 0x24 0x9000 7 [(0x01FD, 0x80), (0x01FC, 0x02), (0x01FB, 0x34)] = true := by decide

/-- BRK with I=0, C=1: pushed byte has old I, live I set -/
theorem test_V106 : shows (run1 0x8000 [0x00, 0xEA] (placeByte 0xFFFF 0x90 (placeByte 0xFFFE 0x00 { s0 with p := 0x21 }))) 0x00 0x00 0x00 0xFA 0x25 0x9000 7 [(0x01FB, 0x31)] = true := by decide

/-- RTI: P from stack with B cleared, U set; no +1 on PC -/
theorem test_V107 : shows (run1 0x9000 [0x40] { s0 with sp := 0xFA, ram := [(0x1FB, 0xD3), (0x1FC, 0x02), (0x1FD, 0x80)] }) 0x00 0x00 0x00 0xFD 0xE3 0x8002 6 [] = true := by decide

/-- NOP -/
theorem test_V108 : shows (run1 0x8000 [0xEA] s0) 0x00 0x00 0x00 0xFD 0x24 0x8001 2 [] = true := by decide

/-- SLO zp -/
theorem test_V120 : shows (run1 0x0200 [0x07, 0x10] { s0 with a := 0x01, ram := [(0x010, 0x81)] }) 0x03 0x00 0x00 0xFD 0x25 0x0202 5 [(0x0010, 0x02)] = true := by decide

/-- RLA zp -/
theorem test_V121 : shows (run1 0x0200 [0x27, 0x10] { s0 with a := 0xFF, p := 0x25, ram := [(0x010, 0x40)] }) 0x81 0x00 0x00 0xFD 0xA4 0x0202 5 [(0x0010, 0x81)] = true := by decide

/-- SRE zp -/
theorem test_V122 : shows (run1 0x0200 [0x47, 0x10] { s0 with a := 0xFF, ram := [(0x010, 0x03)] }) 0xFE 0x00 0x00 0xFD 0xA5 0x0202 5 [(0x0010, 0x01)] = true := by decide

/-- RRA zp: rotated-out bit is the ADC carry-in -/
theorem test_V123 : shows (run1 0x0200 [0x67, 0x10] { s0 with a := 0x10, ram := [(0x010, 0x03)] }) 0x12 0x00 0x00 0xFD 0x24 0x0202 5 [(0x0010, 0x01)] = true := by decide

/-- SAX zp -/
theorem test_V124 : shows (run1 0x0200 [0x87, 0x10] { s0 with a := 0xF0, x := 0x3C }) 0xF0 0x3C 0x00 0xFD 0x24 0x0202 3 [(0x0010, 0x30)] = true := by decide

/-- LAX zp -/
theorem test_V125 : shows (run1 0x0200 [0xA7, 0x10] { s0 with ram := [(0x010, 0x80)] }) 0x80 0x80 0x00 0xFD 0xA4 0x0202 3 [] = true := by decide

/-- LAX aby page cross: 5 -/
theorem test_V126 : shows (run1 0x0200 [0xBF, 0xFF, 0x02] { s0 with y := 0x01, ram := [(0x300, 0x07)] }) 0x07 0x07 0x01 0xFD 0x24 0x0203 5 [] = true := by decide

/-- DCP zp -/
theorem test_V127 : shows (run1 0x0200 [0xC7, 0x10] { s0 with a := 0x10, ram := [(0x010, 0x11)] }) 0x10 0x00 0x00 0xFD 0x27 0x0202 5 [(0x0010, 0x10)] = true := by decide

/-- ISC zp -/
theorem test_V128 : shows (run1 0x0200 [0xE7, 0x10] { s0 with a := 0x10, p := 0x25, ram := [(0x010, 0x0F)] }) 0x00 0x00 0x00 0xFD 0x27 0x0202 5 [(0x0010, 0x10)] = true := by decide

/-- SLO izy: flat 8 cycles on page cross -/
theorem test_V129 : shows (run1 0x0200 [0x13, 0x20] { s0 with a := 0x00, y := 0xFF, ram := [(0x020, 0x01), (0x021, 0x03), (0x400, 0x40)] }) 0x80 0x00 0xFF 0xFD 0xA4 0x0202 8 [(0x0400, 0x80)] = true := by decide

/-- ANC -/
theorem test_V130 : shows (run1 0x0200 [0x0B, 0x80] { s0 with a := 0xFF }) 0x80 0x00 0x00 0xFD 0xA5 0x0202 2 [] = true := by decide

/-- ALR -/
theorem test_V131 : shows (run1 0x0200 [0x4B, 0x03] { s0 with a := 0xFF }) 0x01 0x00 0x00 0xFD 0x25 0x0202 2 [] = true := by decide

/-- ARR, C=1 -/
theorem test_V132 : shows (run1 0x0200 [0x6B, 0xFF] { s0 with a := 0xFF, p := 0x25 }) 0xFF 0x00 0x00 0xFD 0xA5 0x0202 2 [] = true := by decide

/-- ARR, C=0 -/
theorem test_V133 : shows (run1 0x0200 [0x6B, 0x80] { s0 with a := 0xFF }) 0x40 0x00 0x00 0xFD 0x65 0x0202 2 [] = true := by decide

/-- AXS no borrow -/
theorem test_V134 : shows (run1 0x0200 [0xCB, 0x10] { s0 with a := 0xF0, x := 0x3F }) 0xF0 0x20 0x00 0xFD 0x25 0x0202 2 [] = true := by decide

/-- LAS -/
theorem test_V136 : shows (run1 0x0200 [0xBB, 0x00, 0x03] { s0 with sp := 0xF0, ram := [(0x300, 0x3C)] }) 0x30 0x30 0x00 0x30 0x24 0x0203 4 [] = true := by decide

/-- SBC EB -/
theorem test_V137 : shows (run1 0x0200 [0xEB, 0x10] { s0 with a := 0x50, p := 0x25 }) 0x40 0x00 0x00 0xFD 0x25 0x0202 2 [] = true := by decide

/-- NOP abx 1C cross: 5 -/
theorem test_V144 : shows (run1 0x0200 [0x1C, 0xFF, 0x02] { s0 with x := 0x01 }) 0x00 0x01 0x00 0xFD 0x24 0x0203 5 [] = true := by decide

/-- XAA is a no-op -/
theorem test_V145 : shows (run1 0x0200 [0x8B, 0x55] { s0 with a := 0xFF, x := 0x0F }) 0xFF 0x0F 0x00 0xFD 0x24 0x0202 2 [] = true := by decide

/-- AHX aby is a no-op: nothing stored -/
theorem test_V146 : shows (run1 0x0200 [0x9F, 0x00, 0x03] { s0 with a := 0xFF, x := 0xFF, y := 0x01 }) 0xFF 0xFF 0x01 0xFD 0x24 0x0203 5 [(0x0301, 0x00)] = true := by decide

/-- LXA is a no-op -/
theorem test_V148 : shows (run1 0x0200 [0xAB, 0x55] s0) 0x00 0x00 0x00 0xFD 0x24 0x0202 2 [] = true := by decide

/-- R162: A0 FF gives Y = FF, Z = 0, N = 1. -/
theorem test_ldy : shows (run1 0x0200 [0xA0, 0xFF] s0) 0x00 0x00 0xFF 0xFD 0xA4 0x0202 2 [] = true := by decide

/-- R164: X = 07, Y = 01, 96 10 stores 07 at 0011. -/
theorem test_stx : shows (run1 0x0200 [0x96, 0x10] { s0 with x := 0x07, y := 0x01 }) 0x00 0x07 0x01 0xFD 0x24 0x0202 4 [(0x0011, 0x07)] = true := by decide

/-- R165: Y = 80 stored, no flag changed. -/
theorem test_sty : shows (run1 0x0200 [0x84, 0x10] { s0 with y := 0x80 }) 0x00 0x00 0x80 0xFD 0x24 0x0202 3 [(0x0010, 0x80)] = true := by decide

/-- R166: A = 80 gives X = 80, Z = 0, N = 1. -/
theorem test_tax : shows (run1 0x0200 [0xAA] { s0 with a := 0x80 }) 0x80 0x80 0x00 0xFD 0xA4 0x0201 2 [] = true := by decide

/-- R167: A = 00 gives Y = 00, Z = 1, N = 0. -/
theorem test_tay : shows (run1 0x0200 [0xA8] { s0 with y := 0x55 }) 0x00 0x00 0x00 0xFD 0x26 0x0201 2 [] = true := by decide

/-- R168: X = 7F gives A = 7F, Z = 0, N = 0. -/
theorem test_txa : shows (run1 0x0200 [0x8A] { s0 with x := 0x7F }) 0x7F 0x7F 0x00 0xFD 0x24 0x0201 2 [] = true := by decide

/-- R169: Y = FF gives A = FF, Z = 0, N = 1. -/
theorem test_tya : shows (run1 0x0200 [0x98] { s0 with y := 0xFF }) 0xFF 0x00 0xFF 0xFD 0xA4 0x0201 2 [] = true := by decide

/-- R208: X = 01 gives X = 00, Z = 1. -/
theorem test_dex : shows (run1 0x0200 [0xCA] { s0 with x := 0x01 }) 0x00 0x00 0x00 0xFD 0x26 0x0201 2 [] = true := by decide

/-- R209: Y = FF gives Y = 00, Z = 1, N = 0. -/
theorem test_iny : shows (run1 0x0200 [0xC8] { s0 with y := 0xFF }) 0x00 0x00 0x00 0xFD 0x26 0x0201 2 [] = true := by decide

/-- R225: N = 1, 30 7F at 8000 gives PC = 8081, 3 cycles. -/
theorem test_bmi : shows (run1 0x8000 [0x30, 0x7F] { s0 with p := 0xA4 }) 0x00 0x00 0x00 0xFD 0xA4 0x8081 3 [] = true := by decide

/-- R227: V = 1, 50 10 gives PC + 2, 2 cycles. -/
theorem test_bvc : shows (run1 0x8000 [0x50, 0x10] { s0 with p := 0x64 }) 0x00 0x00 0x00 0xFD 0x64 0x8002 2 [] = true := by decide

/-- R228: V = 1, 70 10 at 8000 gives PC = 8012, 3 cycles. -/
theorem test_bvs : shows (run1 0x8000 [0x70, 0x10] { s0 with p := 0x64 }) 0x00 0x00 0x00 0xFD 0x64 0x8012 3 [] = true := by decide

/-- R233. -/
theorem test_clc : shows (run1 0x0200 [0x18] { s0 with p := 0x25 }) 0x00 0x00 0x00 0xFD 0x24 0x0201 2 [] = true := by decide

/-- R234. -/
theorem test_sec : shows (run1 0x0200 [0x38] s0) 0x00 0x00 0x00 0xFD 0x25 0x0201 2 [] = true := by decide

/-- R235: P = 24 gives P = 20. -/
theorem test_cli : shows (run1 0x0200 [0x58] s0) 0x00 0x00 0x00 0xFD 0x20 0x0201 2 [] = true := by decide

/-- R236. -/
theorem test_sei : shows (run1 0x0200 [0x78] { s0 with p := 0x20 }) 0x00 0x00 0x00 0xFD 0x24 0x0201 2 [] = true := by decide

/-- R237: P = 2C gives P = 24. -/
theorem test_cld : shows (run1 0x0200 [0xD8] { s0 with p := 0x2C }) 0x00 0x00 0x00 0xFD 0x24 0x0201 2 [] = true := by decide

/-- R238. -/
theorem test_sed : shows (run1 0x0200 [0xF8] s0) 0x00 0x00 0x00 0xFD 0x2C 0x0201 2 [] = true := by decide

/-- R239: P = 64 gives P = 24. -/
theorem test_clv : shows (run1 0x0200 [0xB8] { s0 with p := 0x64 }) 0x00 0x00 0x00 0xFD 0x24 0x0201 2 [] = true := by decide

/-- R278: 9E 00 02 gives PC + 3, 5 cycles; nothing stored. -/
theorem test_shx : shows (run1 0x8000 [0x9E, 0x00, 0x02] { s0 with x := 0xFF, y := 0x01 }) 0x00 0xFF 0x01 0xFD 0x24 0x8003 5 [(0x0201, 0x00)] = true := by decide

/-- R279: 9C 00 02 gives PC + 3, 5 cycles; nothing stored. -/
theorem test_shy : shows (run1 0x8000 [0x9C, 0x00, 0x02] { s0 with x := 0x01, y := 0xFF }) 0x00 0x01 0xFF 0xFD 0x24 0x8003 5 [(0x0201, 0x00)] = true := by decide

/-- R280: 9B 00 02 gives PC + 3, 5 cycles, SP unchanged. -/
theorem test_tas : shows (run1 0x8000 [0x9B, 0x00, 0x02] { s0 with a := 0xFF, x := 0xFF, y := 0x01 }) 0xFF 0xFF 0x01 0xFD 0x24 0x8003 5 [(0x0201, 0x00)] = true := by decide

/-- R282: 02 at 8000 gives PC = 8001, 2 cycles. -/
theorem test_jam : shows (run1 0x8000 [0x02, 0xEA] s0) 0x00 0x00 0x00 0xFD 0x24 0x8001 2 [] = true := by decide

/-- V139: the immediate byte is skipped. -/
theorem test_nop_imm : shows (run1 0x0200 [0x80, 0xFF] s0) 0x00 0x00 0x00 0xFD 0x24 0x0202 2 [] = true := by decide

/-- V94: the same branch under BRANCH_PAGE_REF = next_pc costs 3. -/
theorem test_V94 : shows (run1 0x00FE [0xF0, 0x02]
    { s0 with p := 0x26, launch := { Launch.empty with branchPageRef := .nextPc } })
    0x00 0x00 0x00 0xFD 0x26 0x0102 3 [] = true := by decide

/-- V105: BRK with BRK_PAD = 0 pushes the opcode's address + 1. -/
theorem test_V105 : shows (run1 0x8000 [0x00, 0xEA]
    { s0 with launch := { Launch.empty with prg := [(0x7FFF, 0x90)], brkPad := 0 } })
    0x00 0x00 0x00 0xFA 0x24 0x9000 7 [(0x01FD, 0x80), (0x01FC, 0x01), (0x01FB, 0x34)] = true := by decide

/-! ### The bus and the PPU window (section 9 of 95_test_vectors.md) -/

/-- B1, B2: RAM mirrors. -/
theorem test_B2 : (rd 0x0800 (wr 0x0000 0xAA s0)).1 = 0xAA ∧ (rd 0x1000 (wr 0x0000 0xAA s0)).1 = 0xAA ∧
    (wr 0x1FFF 0xBB s0).ram = [(0x7FF, 0xBB)] := by decide

/-- B4: a 16 KiB PRG appears twice. -/
theorem test_B4 :
    let s := { s0 with launch := { Launch.empty with prg := [(0, 0x11), (0x3FFF, 0x22)], prgLen := 16384 } }
    (rd 0x8000 s).1 = 0x11 ∧ (rd 0xC000 s).1 = 0x11 ∧ (rd 0xBFFF s).1 = 0x22 ∧ (rd 0xFFFF s).1 = 0x22 := by decide

/-- B6, B8: writes the cartridge ignores. -/
theorem test_B8 : wr 0x8000 0x99 s0 = s0 ∧ wr 0x4014 0x02 s0 = s0 ∧ wr 0x6000 0x55 s0 = s0 := ⟨rfl, rfl, rfl⟩

/-- U1, U2, U5: PPUADDR takes the high byte, the low byte, the high byte. -/
theorem test_U5 :
    let t := wr 0x2006 0x08 (wr 0x2006 0x21 s0)
    t.ppu.vramAddr = 0x2108 ∧ t.ppu.addrLatch = false ∧ (wr 0x3FFE 0x3F t).ppu.vramAddr = 0x3F08 ∧
    (wr 0x3FFE 0x3F t).ppu.addrLatch = true := ⟨rfl, rfl, rfl, rfl⟩

/-- U18, U19: PPUSTATUS gives FF, then 7F. -/
theorem test_U18 :
    let s := { s0 with ppu := { Ppu.powerOn with status := 0xE0, dataBuffer := 0x5F, addrLatch := true } }
    (rd 0x2002 s).1 = 0xFF ∧ (rd 0x2002 (rd 0x2002 s).2).1 = 0x7F ∧ (rd 0x2002 s).2.ppu.addrLatch = false := ⟨rfl, rfl, rfl⟩

/-- U15, U16, U21: the PPUDATA step is 32 with ctrl[2], and wraps at FFFF. -/
theorem test_U16 :
    (wr 0x2007 0x01 (wr 0x2000 0x04 { s0 with ppu := { Ppu.powerOn with vramAddr := 0x3F01 } })).ppu.vramAddr = 0x3F21 ∧
    (wr 0x2007 0x77 { s0 with ppu := { Ppu.powerOn with vramAddr := 0xFFFF } }).ppu.vramAddr = 0x0000 := ⟨rfl, rfl⟩

/-! ### Reset, interrupts, the clock (section 10) -/

/-- X1: the reset vector. -/
theorem test_X1 :
    (nextOf (launch { Launch.empty with prg := [(0x3FFD, 0xC0)], prgLen := 16384 }) s0).pc = 0xC000 := by rfl

/-- R349: lengths that are no positive multiple of 16384 are refused. -/
theorem test_launch_refuses : launch { Launch.empty with prgLen := 0 } = .refused .illegalPrgLength ∧
    launch { Launch.empty with prgLen := 16385 } = .refused .illegalPrgLength := ⟨rfl, rfl⟩

/-- The reset state is the launch of the empty parameters. -/
theorem test_reset_is_launch : launch Launch.empty = .next State.reset := rfl

/-- The state of X3 to X6: PC = 8123, total_cycles = 50, vectors 9000 (NMI) and A000 (IRQ). -/
def sx : State :=
  { s0 with
    pc := 0x8123
    totalCycles := 50
    launch := { Launch.empty with prg := [(0x7FFB, 0x90), (0x7FFF, 0xA0)] } }

/-- X4: NMI is not masked by I and overwrites the owed cycles. -/
theorem test_X4 :
    let t := nmi { sx with cyclesRemaining := 4 }
    t.pc = 0x9000 ∧ t.sp = 0xFA ∧ t.p = 0x24 ∧ t.cyclesRemaining = 7 ∧ t.totalCycles = 58 ∧
    t.ram = [(0x1FB, 0x24), (0x1FC, 0x23), (0x1FD, 0x81)] := by decide

/-- X5: IRQ with I = 1 is dropped. -/
theorem test_X5 : irq sx = sx := rfl

/-- X6: IRQ with I = 0. -/
theorem test_X6 :
    let t := irq { sx with p := 0xA1 }
    t.pc = 0xA000 ∧ t.p = 0xA5 ∧ t.cyclesRemaining = 6 ∧ t.totalCycles = 57 ∧
    t.ram = [(0x1FB, 0xA5), (0x1FC, 0x23), (0x1FD, 0x81)] := by decide

/-- X8: the stack wraps during NMI entry. -/
theorem test_X8 :
    let t := nmi { sx with sp := 0x01, pc := 0xABCD }
    t.sp = 0xFE ∧ t.ram = [(0x100, 0xCD), (0x101, 0xAB), (0x1FF, 0x24)] := by decide

/-- R121: a stall call reports "instruction-not-yet-complete" and only counts down. -/
theorem test_stall_report : (cpuCall { sx with cyclesRemaining := 1 }).report = .instructionNotYetComplete ∧
    cpuStep { sx with cyclesRemaining := 1 } = .next sx := ⟨rfl, rfl⟩

/-- S7: ticks 1 and 2 are the PPU's alone; the CPU steps on tick 3. -/
theorem test_S7 : (nextOf (Sys2Proof.core.run 2 s0) s0).totalCycles = 0 ∧ (nextOf (Sys2Proof.core.run 2 s0) s0).masterTicks = 2 ∧
    (nextOf (Sys2Proof.core.run 3 s0) s0).totalCycles = 7 := by decide

/-- The first step after reset runs a word placed by `withFetchWord`: LDA #$42. -/
theorem test_withFetchWord : (nextOf (step (State.reset.withFetchWord 16 0x42A9)) s0).a = 0x42 := by decide

/-- A host call that is due runs before the tick: reset() with a scheduled call left over. -/
theorem test_schedule : (hostGap { sx with a := 0x12, masterTicks := 5, schedule := [(5, .reset), (9, .irq)] }).a = 0x00 ∧
    (hostGap { sx with a := 0x12, masterTicks := 5, schedule := [(5, .reset), (9, .irq)] }).schedule = [(9, .irq)] := by decide

/-! ### For each obligation with hypotheses: a state and operands that meet them, clause by clause -/

theorem test_meets_LaunchGivesThePowerOnState :
    (16384 ≠ 0 ∧ 16384 % 16384 = 0) ∧ (32768 ≠ 0 ∧ 32768 % 16384 = 0) ∧ (0 = 0 ∨ 0 % 16384 ≠ 0) ∧
    (16383 = 0 ∨ 16383 % 16384 ≠ 0) := by decide

/-- At a third tick's edge: tick 2 is done, a call is scheduled for the gap after it, LDA #$42 stands at FFFF and 0000. -/
def sFetch : State :=
  { s0 with
    pc := 0xFFFF
    masterTicks := 2
    schedule := [(3, .irq)]
    ram := [(0, 0x42)]
    launch := { Launch.empty with prg := [(0x7FFF, 0xA9)] } }

theorem test_meets_StepRunsTheDecodedInstruction :
    (∀ e ∈ sFetch.schedule, sFetch.masterTicks < e.1) ∧ sFetch.masterTicks % 3 = 2 ∧ sFetch.AtBoundary ∧
    decode [0xA9, 0x42] = .ok (.lda (.imm 0x42)) ∧ [0xA9, 0x42].length ≤ (row 0xA9).reads + 1 ∧
    (∀ (k : Nat) (h : k < 2), sFetch.byteAt (sFetch.pc + BitVec.ofNat 16 k) = some ([0xA9, 0x42][k])) :=
  ⟨by decide, rfl, rfl, rfl, by decide, by decide⟩

theorem test_meets_StallStepsOnlyCountDownToTheBoundary : 0 < ({ s0 with cyclesRemaining := 7 } : State).cyclesRemaining := by
  decide

theorem test_meets_OtherTicksRunOnlyThePpu :
    (∀ e ∈ s0.schedule, s0.masterTicks < e.1) ∧ s0.masterTicks % 3 ≠ 2 ∧ ({ s0 with masterTicks := 4 } : State).masterTicks % 3 ≠ 2 := by
  decide

theorem test_meets_NmiIsSampledAfterTheCpuStep :
    (∀ e ∈ sFetch.schedule, sFetch.masterTicks < e.1) ∧ sFetch.masterTicks % 3 = 2 ∧
    (∃ u, cpuStep (dot sFetch) = .next u ∧ u.ppu.nmiPending = false) ∧
    (∃ u, cpuStep (dot { sFetch with ppu := { Ppu.powerOn with nmiPending := true } }) = .next u ∧ u.ppu.nmiPending = true) :=
  ⟨by decide, rfl, ⟨_, rfl, rfl⟩, ⟨_, rfl, rfl⟩⟩

theorem test_meets_ScheduledHostCallRunsInItsGap :
    let s : State := { s0 with masterTicks := 5, schedule := [(5, .irq), (6, .reset)] }
    s.schedule = (5, .irq) :: [(6, .reset)] ∧ 5 ≤ s.masterTicks ∧ ∀ e ∈ [(6, HostCall.reset)], s.masterTicks < e.1 := by decide

/-- A read of 2002 and a write of 2000 while an NMI is pending. -/
theorem test_meets_OnlyThePpuEdgeAndTheClockMoveThePendingNmi :
    (∃ t, exec (.lda (.abs 0x2002)) { s0 with ppu := { Ppu.powerOn with nmiPending := true } } = .next t ∧ t.ppu.nmiPending = true) ∧
    (∃ t, exec (.sta (.abs 0x2000)) s0 = .next t ∧ t.ppu.nmiPending = false) ∧ s0.ppu.nmiPending = false ∧
    ({ s0 with ppu := { Ppu.powerOn with nmiPending := true } } : State).ppu.nmiPending = true :=
  ⟨⟨_, rfl, rfl⟩, ⟨_, rfl, rfl⟩, rfl, rfl⟩

/-- Interrupt entry: RAM in canonical form, and an address outside the three stack bytes, with SP at a wrap. -/
theorem test_meets_NmiEntrySavesPcAndStatus :
    let s : State := { s0 with sp := 0x01 }
    s.ram.wf = true ∧
    ¬SameCell 0x0102 (stackAddr s.sp) ∧ ¬SameCell 0x0102 (stackAddr (s.sp - 1)) ∧ ¬SameCell 0x0102 (stackAddr (s.sp - 2)) ∧
    stackAddr (s.sp - 2) = 0x01FF := by
  refine ⟨rfl, ?_, ?_, ?_, rfl⟩ <;> rintro ⟨-, -, h⟩ <;> exact absurd h (by decide)

theorem test_meets_IrqIsDroppedOrEntered : s0.flag .i = true ∧ ({ s0 with p := 0x20 } : State).flag .i = false := by decide

theorem test_meets_BrkEntersThroughTheIrqVector : s0.ram.wf = true ∧ ({ s0 with ram := [(0x1FD, 1)] } : State).ram.wf = true := by
  decide

theorem test_meets_RtiUndoesAnInterruptEntry :
    ({ s0 with p := 0x20, sp := 0x00, ram := [(0x100, 7)] } : State).ram.wf = true ∧
    ({ s0 with p := 0x20, sp := 0x00, ram := [(0x100, 7)] } : State).flag .i = false := by decide

theorem test_meets_EveryStepKeepsTheInvariant : s0.Inv ∧ (∃ t, step s0 = .next t) ∧ sFetch.Inv ∧ ∃ t, step sFetch = .next t :=
  ⟨by decide, ⟨_, rfl⟩, by decide, ⟨_, rfl⟩⟩

theorem test_meets_LivePHasUSetAndBClear : UAndB s0 ∧ (∃ t, exec .plp s0 = .next t) ∧ (∃ t, step s0 = .next t) ∧
    s0.ram.wf = true ∧ ({ s0 with p := 0x20 } : State).ram.wf = true ∧ ({ s0 with p := 0x20 } : State).flag .i = false :=
  ⟨⟨by decide, by decide⟩, ⟨_, rfl⟩, ⟨_, rfl⟩, rfl, rfl, rfl⟩

theorem test_meets_RunsKeepPrgAndTheLaunchParameters : ∃ t, Sys2Proof.core.run 2 s0 = .next t := ⟨_, rfl⟩

theorem test_meets_RunsCountOneTickPerStep :
    (∃ t, Sys2Proof.core.run 2 s0 = .next t) ∧ s0.schedule = [] ∧ s0.masterTicks % 3 = 0 := ⟨⟨_, rfl⟩, rfl, rfl⟩

theorem test_meets_OnlyTheListedInstructionsWriteAFlag :
    (∃ t, exec .dex s0 = .next t ∧ t.flag .n ≠ s0.flag .n) ∧ (∃ t, exec .tax s0 = .next t ∧ t.flag .z ≠ s0.flag .z) ∧
    (∃ t, exec .plp { s0 with p := 0x34 } = .next t ∧ t.flag .b ≠ true) ∧ ({ s0 with p := 0x34 } : State).flag .b = true ∧
    (∃ t, exec .rti { s0 with p := 0x04 } = .next t ∧ t.flag .u ≠ false) ∧ ({ s0 with p := 0x04 } : State).flag .u = false ∧
    (∃ t, exec .cli s0 = .next t ∧ t.flag .i ≠ s0.flag .i) ∧ (∃ t, exec .sed s0 = .next t ∧ t.flag .d ≠ s0.flag .d) ∧
    (∃ t, exec (.arr 0x80) { s0 with a := 0xFF } = .next t ∧ t.flag .v ≠ s0.flag .v) ∧
    (∃ t, exec (.cmp (.imm 0)) s0 = .next t ∧ t.flag .c ≠ s0.flag .c) :=
  ⟨⟨_, rfl, by decide⟩, ⟨_, rfl, by decide⟩, ⟨_, rfl, by decide⟩, rfl, ⟨_, rfl, by decide⟩, rfl, ⟨_, rfl, by decide⟩,
    ⟨_, rfl, by decide⟩, ⟨_, rfl, by decide⟩, ⟨_, rfl, by decide⟩⟩

theorem test_meets_StackPointerStaysInPageOneAndWraps :
    ({ s0 with sp := 0x00 } : State).sp = 0x00 ∧ s0.ram.wf = true ∧ ({ s0 with sp := 0xFF } : State).sp = 0xFF ∧
    ∃ t, exec .pha s0 = .next t ∧ t.sp ≠ s0.sp := ⟨rfl, rfl, rfl, ⟨_, rfl, by decide⟩⟩

/-- The four regions of the map at their ends. -/
theorem test_meets_BusFollowsTheAddressMap :
    (0x1FFF#16).toNat ≤ 0x1FFF ∧ (0x2000 ≤ (0x2000#16).toNat ∧ (0x3FFF#16).toNat ≤ 0x3FFF) ∧
    (0x4000 ≤ (0x4000#16).toNat ∧ (0x7FFF#16).toNat ≤ 0x7FFF) ∧ 0x8000 ≤ (0x8000#16).toNat ∧ 0x8000 ≤ (0xFFFF#16).toNat := by
  decide

theorem test_meets_RamMirrorsNameOneByte :
    s0.ram.wf = true ∧ (0x0000#16).toNat ≤ 0x1FFF ∧ (0x1800#16).toNat ≤ 0x1FFF ∧ (0x0000#16).toNat % 2048 = (0x1800#16).toNat % 2048 ∧
    (0x1FFF#16).toNat ≤ 0x1FFF ∧ (0x0000#16).toNat % 2048 ≠ (0x1FFF#16).toNat % 2048 := by decide

theorem test_meets_PpuStatusReadClearsVblankAndLatch :
    [0x2002#16, 0x3FFA#16].all (fun a => decide (0x2000 ≤ a.toNat ∧ a.toNat ≤ 0x3FFF ∧ a.toNat % 8 = 2)) = true := by decide

/-- PPUADDR at its first address and its last mirror, with either state of the latch. -/
theorem test_meets_PpuAddrTakesHighThenLow :
    [0x2006#16, 0x3FFE#16].all (fun a => decide (0x2000 ≤ a.toNat ∧ a.toNat ≤ 0x3FFF ∧ a.toNat % 8 = 6)) = true ∧
    s0.ppu.addrLatch = false ∧ (wr 0x2006 0x21 s0).ppu.addrLatch = true := ⟨by decide, rfl, rfl⟩

/-- PPUDATA: both ends of the window, and a next address just below 3F00. -/
theorem test_meets_PpuDataIsBufferedByOneRead :
    [0x2007#16, 0x3FFF#16].all (fun a => decide (0x2000 ≤ a.toNat ∧ a.toNat ≤ 0x3FFF ∧ a.toNat % 8 = 7)) = true ∧
    ((0x3EFE#16).toNat + (if (0x00#8).toNat / 4 % 2 = 1 then 32 else 1)) % 65536 < 0x3F00 := by decide

/-- Every index of the window but 7, each at one of its mirrors. -/
theorem test_meets_OtherPpuRegistersLatchOrIgnore :
    [0x2000#16, 0x3FF9#16, 0x2002#16, 0x2003#16, 0x3FFC#16, 0x2005#16, 0x3FFE#16].all
      (fun a => decide (0x2000 ≤ a.toNat ∧ a.toNat ≤ 0x3FFF)) = true ∧
    (0x2000#16).toNat % 8 = 0 ∧ (0x3FF9#16).toNat % 8 = 1 ∧ (0x2002#16).toNat % 8 = 2 ∧ (0x2003#16).toNat % 8 = 3 ∧
    (0x3FFC#16).toNat % 8 = 4 ∧ (0x2005#16).toNat % 8 = 5 ∧ (0x3FFE#16).toNat % 8 = 6 := by decide

theorem test_meets_CanonicalMemoriesWithEqualBytesAreEqual :
    Memory.wf [(0, 1), (7, 2)] = true ∧ ∀ i, Memory.read [(0, 1), (7, 2)] i = Memory.read [(0, 1), (7, 2)] i := ⟨rfl, fun _ => rfl⟩

theorem test_meets_StackRoundTrips :
    s0.ram.wf = true ∧ ¬SameCell 0x0000 (stackAddr s0.sp) ∧ ¬SameCell 0x0000 (stackAddr (s0.sp - 1)) := by
  refine ⟨rfl, ?_, ?_⟩ <;> rintro ⟨-, -, h⟩ <;> exact absurd h (by decide)

theorem test_meets_EnginesOnlyReadAndOnlyIndexedFormsCross :
    (Operand.zpx 0xFF).mode ∉ [Mode.abx, Mode.aby, Mode.izy] ∧ (Operand.izx 0xFF).mode ∉ [Mode.acc, Mode.imm] ∧
    (Operand.izy 0xFF).mode ≠ .ind := by decide

/-- A stored byte's own cell through a mirror, and a cell next to it. -/
theorem test_meets_StoresByte : s0.ram.wf = true ∧ SameCell 0x1810 0x0010 ∧ ¬SameCell 0x0011 0x0010 ∧ ¬SameCell 0x8010 0x0010 := by
  refine ⟨rfl, by unfold SameCell; decide, ?_, ?_⟩ <;> unfold SameCell <;> decide

theorem test_meets_StoresWriteTheRegisterAtTheAddress :
    (Instr.sta (.abx 0xFFFF)).wf = true ∧ (Instr.stx (.zpy 0xFF)).wf = true ∧ (Instr.sty (.abs 0x8000)).wf = true ∧
    (Instr.sax (.izx 0xFF)).wf = true ∧ (locate (.abx 0xFFFF) s0).loc = .mem 0xFFFF := by decide

theorem test_meets_ShiftsWorkOnAOrMemory :
    (∀ f ∈ [Instr.asl, Instr.lsr, Instr.rol, Instr.ror], (f .acc).wf = true ∧ (f (.abx 0xFFFF)).wf = true) ∧
    (locate (.abx 0x1FFF) s0).loc = .mem 0x1FFF := by decide

theorem test_meets_IncAndDecStepAMemoryByte :
    (Instr.inc (.abs 0x8000)).wf = true ∧ (Instr.dec (.zpx 0xFF)).wf = true ∧ (locate (.zpx 0xFF) s0).loc = .mem 0x00FF := by decide

/-- A taken and a not taken case of every branch. -/
theorem test_meets_BranchesMoveOnlyPcAndCost :
    (∀ f ∈ [Flag.c, Flag.z, Flag.n, Flag.v], ({ s0 with p := 0x24 } : State).flag f = false) ∧
    (∀ f ∈ [Flag.c, Flag.z, Flag.n, Flag.v], ({ s0 with p := 0xE7 } : State).flag f = true) := by decide

theorem test_meets_JumpsCallsAndReturns :
    s0.ram.wf = true ∧ ¬SameCell 0x8000 (stackAddr s0.sp) ∧ ¬SameCell 0x8000 (stackAddr (s0.sp - 1)) := by
  refine ⟨rfl, ?_, ?_⟩ <;> unfold SameCell <;> decide

theorem test_meets_CombinedShiftsWriteMemoryThenA :
    (∀ f ∈ [Instr.slo, Instr.rla, Instr.sre, Instr.rra], (f (.izy 0xFF)).wf = true ∧ (f (.aby 0xFFFF)).wf = true) ∧
    (locate (.izy 0xFF) s0).loc = .mem 0x0000 := by decide

theorem test_meets_DcpAndIscStepMemoryThenCompareOrSubtract :
    (Instr.dcp (.izx 0xFF)).wf = true ∧ (Instr.isc (.zpx 0xFF)).wf = true ∧ (locate (.izx 0xFF) s0).loc = .mem 0x0000 := by decide

theorem test_meets_DecodeOfEncodeIsTheInstruction :
    (Instr.jmp (.ind 0xFFFF)).wf = true ∧ (Instr.nopUndoc (.abx 5 0xFFFF)).wf = true ∧ Instr.brk.wf = true := by decide

end Sys2Proof.Tests
end

section
/-! SUPPORT. Totality of the decoder, of every instruction and of every step (00_scope.md R8). -/

namespace Sys2Proof

/-! ### The decoder -/

/-- No entry of the opcode map has more than two operand bytes (30_encoding.md R91 to R93). -/
theorem opcodeRows_reads_le : ∀ r ∈ opcodeRows, r.reads ≤ 2 := by
  unfold opcodeRows
  simp only [List.forall_mem_append]
  decide

theorem row_reads_le (op : Byte) : (row op).reads ≤ 2 := by
  rw [row, List.getD_eq_getElem?_getD]
  cases hop : opcodeRows[op.toNat]? with
  | none => exact Nat.zero_le 2
  | some r => exact opcodeRows_reads_le r (List.mem_of_getElem? hop)

/-- No opcode byte is illegal (30_encoding.md R101): with two bytes after it, none is missing. -/
theorem decode_three_bytes (op lo hi : Byte) : ∃ i, decode [op, lo, hi] = .ok i := by
  have hreads := row_reads_le op
  obtain h | h | h : (row op).reads = 0 ∨ (row op).reads = 1 ∨ (row op).reads = 2 := by omega
  all_goals simp [decode, h]

end Sys2Proof

namespace Sys2Proof.Machine

/-! ### The instructions -/

theorem idle_completes (s : State) (c : Cost) (o : Operand) : Completes (idle c o s) := runOperand_completes s c o _

/-- Every instruction runs one of the two instruction cycles (R122), and both answer a next state. -/
theorem exec_completes (i : Instr) (s : State) : Completes (exec i s) := by
  cases i with
  | tax | tay | txa | tya | tsx | txs | pha | php | pla | plp | inx | dex | iny | dey
  | bcc | bcs | beq | bne | bmi | bpl | bvc | bvs | rts
  | clc | sec | cli | sei | cld | sed | clv | brk | rti | nop | xaa | lxa | jam =>
    exact runImplied_completes s _ _ _
  | jsr target =>
    -- the body uses `target`, so it is not found by unification through `exec`
    unfold exec execJsr
    exact runImplied_completes s _ _ _
  | lda | ldx | ldy | sta | stx | sty | and | ora | eor | asl | lsr | rol | ror
  | adc | sbc | cmp | cpx | cpy | inc | dec | jmp | bit
  | slo | rla | sre | rra | sax | lax | dcp | isc | anc | alr | arr | axs | las | sbcUndoc =>
    exact runOperand_completes s _ _ _
  | ahx | shx | shy | tas => exact idle_completes s _ _
  | nopUndoc f =>
    cases f with
    | imp | imm => exact runImplied_completes s _ _ _
    | zp | zpx | abs | abx => exact idle_completes s _ _

/-! ### The clock -/

/-- A stall cycle (R121) only counts down; an execute cycle (R122) runs an instruction. -/
theorem cpuStep_completes (s : State) : Completes (cpuStep s) := by
  by_cases hstall : 0 < s.cyclesRemaining
  · rw [cpuStep, cpuCall_stall s hstall]
    exact ⟨_, rfl⟩
  · rw [cpuStep_boundary s (Nat.eq_zero_of_not_pos hstall)]
    exact exec_completes _ _

theorem afterCpuStep_completes {r : Host.Outcome State Fault Refusal} (h : Completes r) : Completes (afterCpuStep r) := by
  obtain ⟨t, rfl⟩ := h
  exact ⟨deliverNmi t, rfl⟩

theorem tick_completes (s : State) : Completes (tick s) := by
  by_cases hcpu : s.masterTicks % 3 = 2
  · rw [tick_cpu s hcpu]
    exact afterCpuStep_completes (cpuStep_completes _)
  · exact ⟨dot s, tick_dot s hcpu⟩

/-- Host calls are total, so a step completes as its tick does. -/
theorem step_completes (s : State) : Completes (step s) := tick_completes (hostGap s)

end Sys2Proof.Machine

namespace Sys2Proof.Claims

open Sys2Proof.Machine

/-- Settles O19: the decoder, the two instruction cycles and the clock are each total. -/
theorem nothingEverFaults : Obligations.NothingEverFaults :=
  ⟨decode_three_bytes, exec_completes, step_completes⟩

end Sys2Proof.Claims
end

section
/-! SUPPORT. Properties of the state that the machine cannot end. Every instruction, host call and tick is made of a few
updates of the state; a property kept by these updates is kept by every step and every run. -/

namespace Sys2Proof.Machine

/-- The property survives a write of A, X, Y, PC or a cycle counter, of a flag other than B and U, and a bus access. -/
structure KeptByUpdates (P : State → Prop) : Prop where
  after_setA : ∀ {s} (v), P s → P (s.setA v)
  after_setX : ∀ {s} (v), P s → P (s.setX v)
  after_setY : ∀ {s} (v), P s → P (s.setY v)
  after_setPC : ∀ {s} (v), P s → P (s.setPC v)
  after_setCyclesRemaining : ∀ {s} (v), P s → P (s.setCyclesRemaining v)
  after_setTotalCycles : ∀ {s} (v), P s → P (s.setTotalCycles v)
  after_setFlag : ∀ {s} (f v), f ≠ .b ∧ f ≠ .u → P s → P (s.setFlag f v)
  after_rd : ∀ {s} (a), P s → P (rd a s).2
  after_wr : ∀ {s} (a v), P s → P (wr a v s)

/-- The property also survives a write of SP, and of a status byte with U = 1 and B = 0 (10_state.md R24). -/
structure KeptByStack (P : State → Prop) : Prop extends KeptByUpdates P where
  after_setSP : ∀ {s} (v), P s → P (s.setSP v)
  after_setP : ∀ {s} (v), getFlag .u v = true → getFlag .b v = false → P s → P (s.setP v)

/-- The property also survives what the System Clock and the host's schedule write. -/
structure KeptByClock (P : State → Prop) : Prop extends KeptByStack P where
  after_setPpu : ∀ {s} (v), P s → P (s.setPpu v)
  after_setMasterTicks : ∀ {s} (v), P s → P (s.setMasterTicks v)
  after_setSchedule : ∀ {s} (v), P s → P (s.setSchedule v)

variable {P : State → Prop} {s : State}

/-! ### The instruction cycle (R122) -/

namespace KeptByUpdates

variable (h : KeptByUpdates P)
include h

theorem after_advance (n c : Nat) (hs : P s) : P (advance n c s) := h.after_setPC _ (h.after_setCyclesRemaining _ hs)

theorem after_retire (hs : P s) : P (retire s) := h.after_setCyclesRemaining _ (h.after_setTotalCycles _ hs)

theorem after_readWordBug (a : Addr) (hs : P s) : P (readWordBug a s).2 := h.after_rd _ (h.after_rd _ hs)

theorem after_readWordLe (a : Addr) (hs : P s) : P (readWordLe a s).2 := h.after_rd _ (h.after_rd _ hs)

theorem after_locate (o : Operand) (hs : P s) : P (locate o s).state := by
  cases o with
  | acc | imm | zp | zpx | zpy | abs | abx | aby => exact hs
  | ind | izx | izy => exact h.after_readWordBug _ hs

theorem after_readLoc (l : Loc) (hs : P s) : P (readLoc l s).2 := by
  cases l with
  | acc | imm => exact hs
  | mem ea => exact h.after_rd ea hs

theorem after_writeLoc (l : Loc) (v : Byte) (hs : P s) : P (writeLoc l v s) := by
  cases l with
  | acc => exact h.after_setA v hs
  | imm => exact hs
  | mem ea => exact h.after_wr ea v hs

theorem after_runImplied {n c : Nat} {body : State → State} (hbody : ∀ s, P s → P (body s)) (hs : P s) :
    ∀ t, runImplied n c body s = .next t → P t := by
  rintro _ ⟨⟩
  exact h.after_retire (hbody _ (h.after_advance n c hs))

theorem after_runOperand {c : Cost} {o : Operand} {body : Loc → State → State} (hbody : ∀ l s, P s → P (body l s))
    (hs : P s) : ∀ t, runOperand c o body s = .next t → P t := by
  rintro _ ⟨⟩
  exact h.after_retire (hbody _ _ (h.after_advance _ _ (h.after_locate o hs)))

theorem after_withOperand {use : Byte → State → State} (huse : ∀ m s, P s → P (use m s)) :
    ∀ l s, P s → P (withOperand use l s) :=
  fun l _ hs => huse _ _ (h.after_readLoc l hs)

theorem after_modifying {f : Byte → State → Byte} {andThen : Byte → Byte → State → State}
    (hthen : ∀ m r s, P s → P (andThen m r s)) : ∀ l s, P s → P (modifying f andThen l s) :=
  fun l _ hs => hthen _ _ _ (h.after_writeLoc l _ (h.after_readLoc l hs))

theorem after_shifting {f : Byte → Bool → Byte × Bool} {andThen : Byte → State → State}
    (hthen : ∀ r s, P s → P (andThen r s)) : ∀ l s, P s → P (shifting f andThen l s) :=
  h.after_modifying fun _ r _ hs => hthen r _ (h.after_setFlag .c _ (by decide) hs)

theorem after_stepping {f : Byte → Byte} {andThen : Byte → State → State} (hthen : ∀ r s, P s → P (andThen r s)) :
    ∀ l s, P s → P (stepping f andThen l s) :=
  h.after_modifying fun _ r _ hs => hthen r _ hs

/-! ### The bodies (R151, R220, R229, R232, R269 to R272) -/

theorem after_setZN (v : Byte) (hs : P s) : P (s.setZN v) :=
  h.after_setFlag .n _ (by decide) (h.after_setFlag .z _ (by decide) hs)

theorem after_loadA (v : Byte) (hs : P s) : P (loadA v s) := h.after_setZN v (h.after_setA v hs)

theorem after_loadX (v : Byte) (hs : P s) : P (loadX v s) := h.after_setZN v (h.after_setX v hs)

theorem after_loadY (v : Byte) (hs : P s) : P (loadY v s) := h.after_setZN v (h.after_setY v hs)

theorem after_loadAX (v : Byte) (hs : P s) : P (loadAX v s) :=
  h.after_setZN v (h.after_setA v (h.after_setX v hs))

theorem after_doAdc (m : Byte) (hs : P s) : P (doAdc m s) :=
  h.after_loadA _ (h.after_setFlag .v _ (by decide) (h.after_setFlag .c _ (by decide) hs))

theorem after_doCmp (reg m : Byte) (hs : P s) : P (doCmp reg m s) :=
  h.after_setZN _ (h.after_setFlag .c _ (by decide) hs)

theorem after_bitTest (m : Byte) (hs : P s) : P (bitTest m s) :=
  h.after_setFlag .v _ (by decide) (h.after_setFlag .n _ (by decide) (h.after_setFlag .z _ (by decide) hs))

theorem after_ancBody (m : Byte) (hs : P s) : P (ancBody m s) := h.after_setFlag .c _ (by decide) (h.after_loadA _ hs)

theorem after_alrBody (m : Byte) (hs : P s) : P (alrBody m s) := h.after_loadA _ (h.after_setFlag .c _ (by decide) hs)

theorem after_arrBody (m : Byte) (hs : P s) : P (arrBody m s) :=
  h.after_setFlag .v _ (by decide) (h.after_setFlag .c _ (by decide) (h.after_loadA _ hs))

theorem after_axsBody (m : Byte) (hs : P s) : P (axsBody m s) := h.after_loadX _ (h.after_setFlag .c _ (by decide) hs)

theorem after_jumpTo (l : Loc) (hs : P s) : P (jumpTo l s) := by
  cases l with
  | acc | imm => exact hs
  | mem ea => exact h.after_setPC ea hs

theorem after_branch (taken : Bool) (off : Byte) (hs : P s) : ∀ t, branch taken off s = .next t → P t := by
  unfold branch
  refine h.after_runImplied (fun u hu => ?_) hs
  cases taken with
  | false => exact hu
  | true => exact h.after_setPC _ (h.after_setCyclesRemaining _ hu)

theorem after_idle {c : Cost} {o : Operand} (hs : P s) : ∀ t, idle c o s = .next t → P t :=
  h.after_runOperand (fun _ _ hu => hu) hs

end KeptByUpdates

/-! ### The instructions that leave SP alone -/

/-- The instructions that write SP: the pushes, the pulls, the calls and returns, TXS and LAS. -/
def writesSP : Instr → Bool
  | .pha | .php | .pla | .plp | .jsr _ | .rts | .brk | .rti | .txs | .las _ => true
  | _ => false

theorem KeptByUpdates.after_exec (h : KeptByUpdates P) {i : Instr} (hi : writesSP i = false) (hs : P s) :
    ∀ t, exec i s = .next t → P t := by
  cases i with
  | pha | php | pla | plp | jsr | rts | brk | rti | txs | las => cases hi
  | tax | tsx | inx | dex => exact h.after_runImplied (fun _ hu => h.after_loadX _ hu) hs
  | tay | iny | dey => exact h.after_runImplied (fun _ hu => h.after_loadY _ hu) hs
  | txa | tya => exact h.after_runImplied (fun _ hu => h.after_loadA _ hu) hs
  | clc | sec | cli | sei | cld | sed | clv =>
    exact h.after_runImplied (fun _ hu => h.after_setFlag _ _ (by decide) hu) hs
  | nop | xaa | lxa | jam => exact h.after_runImplied (fun _ hu => hu) hs
  | bcc | bcs | beq | bne | bmi | bpl | bvc | bvs => exact h.after_branch _ _ hs
  | lda | and | ora | eor => exact h.after_runOperand (h.after_withOperand fun _ _ hu => h.after_loadA _ hu) hs
  | ldx => exact h.after_runOperand (h.after_withOperand fun _ _ hu => h.after_loadX _ hu) hs
  | ldy => exact h.after_runOperand (h.after_withOperand fun _ _ hu => h.after_loadY _ hu) hs
  | lax => exact h.after_runOperand (h.after_withOperand fun _ _ hu => h.after_loadAX _ hu) hs
  | adc | sbc | sbcUndoc => exact h.after_runOperand (h.after_withOperand fun _ _ hu => h.after_doAdc _ hu) hs
  | cmp | cpx | cpy => exact h.after_runOperand (h.after_withOperand fun _ _ hu => h.after_doCmp _ _ hu) hs
  | bit => exact h.after_runOperand (h.after_withOperand fun _ _ hu => h.after_bitTest _ hu) hs
  | anc => exact h.after_runOperand (h.after_withOperand fun _ _ hu => h.after_ancBody _ hu) hs
  | alr => exact h.after_runOperand (h.after_withOperand fun _ _ hu => h.after_alrBody _ hu) hs
  | arr => exact h.after_runOperand (h.after_withOperand fun _ _ hu => h.after_arrBody _ hu) hs
  | axs => exact h.after_runOperand (h.after_withOperand fun _ _ hu => h.after_axsBody _ hu) hs
  | sta | stx | sty | sax => exact h.after_runOperand (fun l _ hu => h.after_writeLoc l _ hu) hs
  | asl | lsr | rol | ror => exact h.after_runOperand (h.after_shifting fun _ _ hu => h.after_setZN _ hu) hs
  | slo | rla | sre => exact h.after_runOperand (h.after_shifting fun _ _ hu => h.after_loadA _ hu) hs
  | rra => exact h.after_runOperand (h.after_shifting fun _ _ hu => h.after_doAdc _ hu) hs
  | inc | dec => exact h.after_runOperand (h.after_stepping fun _ _ hu => h.after_setZN _ hu) hs
  | dcp => exact h.after_runOperand (h.after_stepping fun _ _ hu => h.after_doCmp _ _ hu) hs
  | isc => exact h.after_runOperand (h.after_stepping fun _ _ hu => h.after_doAdc _ hu) hs
  | jmp => exact h.after_runOperand (fun l _ hu => h.after_jumpTo l hu) hs
  | ahx | shx | shy | tas => exact h.after_idle hs
  | nopUndoc f =>
    cases f with
    | imp | imm => exact h.after_runImplied (fun _ hu => hu) hs
    | zp | zpx | abs | abx => exact h.after_idle hs

/-! ### Every instruction, and the interrupts -/

namespace KeptByStack

variable (h : KeptByStack P)
include h

theorem after_push8 (v : Byte) (hs : P s) : P (push8 v s) := h.after_setSP _ (h.after_wr _ v hs)

theorem after_pop8 (hs : P s) : P (pop8 s).2 := h.after_rd _ (h.after_setSP _ hs)

theorem after_push16 (w : Addr) (hs : P s) : P (push16 w s) := h.after_push8 _ (h.after_push8 _ hs)

theorem after_pop16 (hs : P s) : P (pop16 s).2 := h.after_pop8 (h.after_pop8 hs)

/-- The state an interrupt's three pushes and its vector read leave, before P and PC are loaded. -/
theorem after_interruptFrame (vector : Addr) (pushed : Byte) (hs : P s) :
    P (readWordLe vector (push8 pushed (push16 s.pc s))).2 :=
  h.after_readWordLe _ (h.after_push8 _ (h.after_push16 _ hs))

/-- BRK writes I alone (R240, R304): the P it loads is the one it pushed, with I set. -/
theorem after_brkEntry (hs : P s) : P (brkEntry s) := by
  have hframe := h.after_setFlag .i true (by decide) (h.after_interruptFrame 0xFFFE (pushedWithB s.p) hs)
  simp only [State.setFlag, readWordLe_p, push8_p, push16_p] at hframe
  exact h.after_setPC _ hframe

theorem after_setP_pulledP (v : Byte) (hs : P s) : P (s.setP (pulledP v)) :=
  h.after_setP _ (getFlag_pulledP .u v) (getFlag_pulledP .b v) hs

theorem after_interruptReturn (hs : P s) : P (interruptReturn s) :=
  h.after_setPC _ (h.after_pop16 (h.after_setP_pulledP _ (h.after_pop8 hs)))

theorem after_exec (i : Instr) (hs : P s) : ∀ t, exec i s = .next t → P t := by
  by_cases hi : writesSP i = false
  · exact h.toKeptByUpdates.after_exec hi hs
  · cases i with
    | pha | php => exact h.after_runImplied (fun _ hu => h.after_push8 _ hu) hs
    | pla => exact h.after_runImplied (fun _ hu => h.after_loadA _ (h.after_pop8 hu)) hs
    | plp => exact h.after_runImplied (fun _ hu => h.after_setP_pulledP _ (h.after_pop8 hu)) hs
    | jsr target =>
      unfold exec execJsr
      exact h.after_runImplied (fun _ hu => h.after_setPC _ (h.after_push16 _ hu)) hs
    | rts => exact h.after_runImplied (fun _ hu => h.after_setPC _ (h.after_pop16 hu)) hs
    | brk => exact h.after_runImplied (fun _ hu => h.after_brkEntry hu) hs
    | rti => exact h.after_runImplied (fun _ hu => h.after_interruptReturn hu) hs
    | txs => exact h.after_runImplied (fun _ hu => h.after_setSP _ hu) hs
    | las =>
      exact h.after_runOperand (h.after_withOperand fun _ _ hu => h.after_loadAX _ (h.after_setSP _ hu)) hs
    | _ => exact absurd rfl hi

/-- NMI and IRQ entry load a P with U = 1 and B = 0 (R302, R303). -/
theorem after_hardwareInterrupt (vector : Addr) (hs : P s) :
    P (interrupt vector (interruptP s.p) (interruptP s.p) s) :=
  h.after_setPC _ (h.after_setP _ (getFlag_interruptP .u _) (getFlag_interruptP .b _) (h.after_interruptFrame _ _ hs))

theorem after_nmi (hs : P s) : P (nmi s) :=
  h.after_setCyclesRemaining _ (h.after_setTotalCycles _ (h.after_hardwareInterrupt _ hs))

theorem after_irq (hs : P s) : P (irq s) := by
  unfold irq
  split
  · exact hs
  · exact h.after_setCyclesRemaining _ (h.after_setTotalCycles _ (h.after_hardwareInterrupt _ hs))

theorem after_cpuReset (hs : P s) : P (cpuReset s) := by
  have hregs : P (((((s.setA 0).setX 0).setY 0).setSP 0xFD).setP 0x24) :=
    h.after_setP _ rfl rfl (h.after_setSP _ (h.after_setY _ (h.after_setX _ (h.after_setA _ hs))))
  exact h.after_setCyclesRemaining _ (h.after_setPC _ (h.after_readWordLe _ hregs))

end KeptByStack

/-! ### The clock and a run -/

theorem KeptByUpdates.after_fetch (h : KeptByUpdates P) (hs : P s) : P (fetch s).2 := by
  have hop := h.after_rd s.pc hs
  have hlo := h.after_rd (s.pc + 1) hop
  simp only [fetch]
  split
  · exact hop
  · exact hlo
  · exact h.after_rd _ hlo

namespace KeptByClock

variable (h : KeptByClock P)
include h

theorem after_runDue (l : List (Nat × HostCall)) (hs : P s) : P (runDue l s) := by
  induction l generalizing s with
  | nil => exact h.after_setSchedule _ hs
  | cons e l ih =>
    obtain ⟨tick, call⟩ := e
    unfold runDue
    split
    · cases call with
      | irq => exact ih (h.after_irq hs)
      | reset => exact ih (h.after_cpuReset hs)
    · exact h.after_setSchedule _ hs

theorem after_dot (hs : P s) : P (dot s) := h.after_setMasterTicks _ (h.after_setPpu _ hs)

theorem after_deliverNmi (hs : P s) : P (deliverNmi s) := by
  unfold deliverNmi
  split
  · exact h.after_setPpu _ (h.after_nmi hs)
  · exact hs

theorem after_cpuStep (hs : P s) : ∀ t, cpuStep s = .next t → P t := by
  by_cases hstall : 0 < s.cyclesRemaining
  · rw [cpuStep, cpuCall_stall s hstall]
    rintro _ ⟨⟩
    exact h.after_setCyclesRemaining _ hs
  · rw [cpuStep_boundary s (Nat.eq_zero_of_not_pos hstall)]
    exact h.after_exec _ (h.after_fetch hs)

theorem after_tick (hs : P s) : ∀ t, tick s = .next t → P t := by
  by_cases hcpu : s.masterTicks % 3 = 2
  · obtain ⟨u, hu⟩ := cpuStep_completes (dot s)
    rw [tick_cpu s hcpu, hu]
    rintro _ ⟨⟩
    exact h.after_deliverNmi (h.after_cpuStep (h.after_dot hs) u hu)
  · rw [tick_dot s hcpu]
    rintro _ ⟨⟩
    exact h.after_dot hs

theorem after_step (hs : P s) : ∀ t, step s = .next t → P t := h.after_tick (h.after_runDue _ hs)

end KeptByClock

/-- What every step keeps, every run keeps. -/
theorem run_keeps {M : Host.Core} {Q : M.State → Prop} (hstep : ∀ s t, Q s → M.step s = .next t → Q t) {n : Nat}
    {s t : M.State} (hs : Q s) (hrun : M.run n s = .next t) : Q t := by
  induction n generalizing s with
  | zero => cases hrun; exact hs
  | succ n ih =>
    unfold Host.Core.run at hrun
    split at hrun
    next u hu => exact ih (hstep s u hs hu) hrun
    · cases hrun
    · cases hrun

/-! ### Properties that are kept -/

theorem sp_keptByUpdates (v : Byte) : KeptByUpdates fun s => s.sp = v := by
  constructor <;> simp

/-- PRG and the launch parameters have no writer (R31, R57). -/
theorem launch_keptByClock (l : Launch) : KeptByClock fun s => s.launch = l where
  toKeptByUpdates := by constructor <;> simp
  after_setSP := by simp
  after_setP := by simp
  after_setPpu := by simp
  after_setMasterTicks := by simp
  after_setSchedule := by simp

end Sys2Proof.Machine
end

section
/-! SUPPORT. The stack's bytes after a push and after an interrupt entry (R22, R142, R305). -/

namespace Sys2Proof.Machine

variable (s : State)

theorem ramIndex_stackAddr (sp : Byte) : ramIndex (stackAddr sp) = 0x0100 + sp.toNat := by
  have h := sp.isLt
  rw [ramIndex_eq, stackAddr_toNat]
  omega

theorem byteAt_stackAddr (sp : Byte) : s.byteAt (stackAddr sp) = some (s.ram.read (0x0100 + sp.toNat)) := by
  simp only [State.byteAt, stackAddr_le, if_true, ramIndex_stackAddr]

theorem push8_ram (v : Byte) : (push8 v s).ram = s.ram.write (0x0100 + s.sp.toNat) v := by
  rw [push8_eq, ramIndex_stackAddr]
  rfl

theorem push8_ram_wf (v : Byte) (hwf : s.ram.wf = true) : (push8 v s).ram.wf = true := by
  rw [push8_ram]
  exact Memory.write_wf hwf _ v

theorem push16_ram_wf (w : Addr) (hwf : s.ram.wf = true) : (push16 w s).ram.wf = true :=
  push8_ram_wf _ _ (push8_ram_wf s _ hwf)

/-- A pushed byte stands at the old SP (R142). -/
theorem push8_byteAt (v : Byte) (hwf : s.ram.wf = true) : (push8 v s).byteAt (stackAddr s.sp) = some v := by
  rw [byteAt_stackAddr, push8_ram, Memory.read_write_same hwf]

/-- The status byte an interrupt pushes stands below the two bytes of PC (R305). -/
theorem interrupt_byteAt_status (vector : Addr) (pushed live : Byte) (hwf : s.ram.wf = true) :
    (interrupt vector pushed live s).byteAt (stackAddr (s.sp - 2)) = some pushed := by
  have hpush := push8_byteAt (push16 s.pc s) pushed (push16_ram_wf s _ hwf)
  rw [push16_sp] at hpush
  rw [← hpush]
  exact State.byteAt_congr (by simp [interrupt]) (by simp [interrupt]) _

theorem irq_taken (hi : s.flag .i = false) :
    irq s = ((interrupt 0xFFFE (interruptP s.p) (interruptP s.p) s).setTotalCycles
      (s.totalCycles + 7)).setCyclesRemaining 6 := by
  simp only [irq, hi, Bool.false_eq_true, if_false]

end Sys2Proof.Machine
end

section
/-! SUPPORT. The family of 10_state.md: the live P, the launch parameters and the stack pointer (O18, O20, O23). -/

namespace Sys2Proof.Claims

open Sys2Proof.Machine

/-! ### The launch parameters (R31) -/

/-- Settles O20: nothing the machine is made of writes the launch parameters. -/
theorem runsKeepPrgAndTheLaunchParameters : Obligations.RunsKeepPrgAndTheLaunchParameters :=
  fun _ s _ hrun => run_keeps (M := core) (fun _ t hs ht => (launch_keptByClock s.launch).after_step hs t ht) rfl hrun

/-! ### The status byte, live and pushed (R24) -/

/-- B and U are written with a whole status byte only (10_state.md R24). -/
theorem uAndB_keptByClock : KeptByClock UAndB where
  toKeptByUpdates := by
    constructor
    case after_setFlag =>
      rintro s f v ⟨hb, hu⟩ hs
      simpa [UAndB, hb.symm, hu.symm] using hs
    all_goals simp [UAndB]
  after_setSP := by simp [UAndB]
  after_setP := by simp +contextual [UAndB]
  after_setPpu := by simp [UAndB]
  after_setMasterTicks := by simp [UAndB]
  after_setSchedule := by simp [UAndB]

theorem uAndB_cpuReset (s : State) : UAndB (cpuReset s) := by
  simp [UAndB, cpuReset, State.flag, getFlag, Flag.bit]

theorem uAndB_nmi (s : State) : UAndB (nmi s) := by
  simp [UAndB, nmi, interrupt, getFlag_interruptP]

theorem php_pushes_status (s : State) (hwf : s.ram.wf = true) :
    ∃ t, exec .php s = .next t ∧ StatusAt t (stackAddr s.sp) true :=
  ⟨_, rfl, pushedWithB s.p, push8_byteAt (advance 1 3 s) _ hwf, getFlag_pushedWithB .b _, getFlag_pushedWithB .u _⟩

theorem brk_pushes_status (s : State) (hwf : s.ram.wf = true) :
    ∃ t, exec .brk s = .next t ∧ StatusAt t (stackAddr (s.sp - 2)) true :=
  ⟨_, rfl, pushedWithB s.p, interrupt_byteAt_status (advance _ 7 s) _ _ (putFlag .i true s.p) hwf,
    getFlag_pushedWithB .b _, getFlag_pushedWithB .u _⟩

theorem hardwareInterrupt_pushes_status (vector : Addr) (s : State) (hwf : s.ram.wf = true) :
    StatusAt (interrupt vector (interruptP s.p) (interruptP s.p) s) (stackAddr (s.sp - 2)) false :=
  ⟨interruptP s.p, interrupt_byteAt_status s _ _ _ hwf, getFlag_interruptP .b _, getFlag_interruptP .u _⟩

/-- Settles O18: B and U of the live P are written with a whole status byte only, and those the machine loads have U = 1
and B = 0. -/
theorem livePHasUSetAndBClear : Obligations.LivePHasUSetAndBClear := by
  refine ⟨fun s => ⟨uAndB_cpuReset s, uAndB_nmi s⟩, fun s => uAndB_keptByClock.after_irq,
    fun i s t hs => uAndB_keptByClock.after_exec i hs t, fun s t hs => uAndB_keptByClock.after_step hs t,
    fun s hwf => ?_⟩
  refine ⟨php_pushes_status s hwf, brk_pushes_status s hwf, hardwareInterrupt_pushes_status _ s hwf, fun hi => ?_⟩
  rw [irq_taken s hi]
  exact hardwareInterrupt_pushes_status _ s hwf

/-! ### The stack pointer (R22) -/

theorem writesSP_of_sp_ne {i : Instr} {s t : State} (ht : exec i s = .next t) (hsp : t.sp ≠ s.sp) :
    writesSP i = true := by
  by_contra hi
  exact hsp ((sp_keptByUpdates s.sp).after_exec (Bool.eq_false_iff.mpr hi) rfl t ht)

theorem writesSP_cases {i : Instr} (hi : writesSP i = true) :
    i = .pha ∨ i = .php ∨ i = .pla ∨ i = .plp ∨ (∃ w, i = .jsr w ∨ i = .las w) ∨ i = .rts ∨ i = .brk ∨
      i = .rti ∨ i = .txs := by
  cases i with
  | pha | php | pla | plp | jsr | las | rts | brk | rti | txs => simp
  | _ => cases hi

/-- Settles O23: the stack operations by their rules, and only the instructions of `writesSP` change SP. -/
theorem stackPointerStaysInPageOneAndWraps : Obligations.StackPointerStaysInPageOneAndWraps := by
  refine ⟨stackAddr_toNat, fun s v => rfl, fun s => ?_, fun s v hsp => ⟨?_, fun hwf => ?_⟩,
    fun s hsp => ⟨?_, ?_⟩, fun s => ?_, fun i s t ht hsp => writesSP_cases (writesSP_of_sp_ne ht hsp)⟩
  · rw [pop8_eq, ramIndex_stackAddr]
    rfl
  · rw [push8_sp, hsp]
    rfl
  · have hpush := push8_byteAt s v hwf
    rwa [hsp] at hpush
  · rw [pop8_sp, hsp]
    rfl
  · rw [pop8_eq, hsp]
    rfl
  · simp [cpuReset]

end Sys2Proof.Claims
end

section
/-! SUPPORT. What `set_zn` leaves in P, and the shift and addition primitives as arithmetic (R141, R146 to R150). -/

namespace Sys2Proof.Machine

open Sys2Proof.Claims

/-! ### `set_zn` (R141) -/

theorem flagsAre_putZN (v p : Byte) : FlagsAre p (putZN v p) (zn v) := by
  intro f
  rw [getFlag_putZN, getLsbD_seven]
  cases f <;> simp [zn, listedFlag, beq_eq_decide]

/-! ### Shifts (R146 to R149) -/

theorem getLsbD_zero_eq (v : Byte) : v.getLsbD 0 = decide (v.toNat % 2 = 1) := Nat.testBit_zero _

theorem asl8_toNat (v : Byte) : (asl8 v).1.toNat = 2 * v.toNat % 256 := by
  rw [asl8, BitVec.toNat_shiftLeft, Nat.shiftLeft_eq, Nat.mul_comm]

theorem lsr8_toNat (v : Byte) : (lsr8 v).1.toNat = v.toNat / 2 := by
  rw [lsr8, BitVec.toNat_ushiftRight, Nat.shiftRight_one]

/-- The carry-in goes to bit 0, which `asl8` leaves 0 (R148). -/
theorem rol8_eq_add (v : Byte) (cin : Bool) : (rol8 v cin).1 = (asl8 v).1 + (BitVec.ofBool cin).setWidth 8 := by
  refine (BitVec.add_eq_or_of_and_eq_zero _ _ ?_).symm
  ext i
  cases i <;> simp

/-- The carry-in goes to bit 7, which `lsr8` leaves 0 (R149). -/
theorem ror8_eq_add (v : Byte) (cin : Bool) :
    (ror8 v cin).1 = (lsr8 v).1 + (BitVec.ofBool cin).setWidth 8 <<< 7 := by
  refine (BitVec.add_eq_or_of_and_eq_zero _ _ ?_).symm
  ext i
  obtain rfl | hi : i = 7 ∨ i < 7 := by omega
  · simp
  · simp [hi]

theorem rol8_toNat (v : Byte) (cin : Bool) : (rol8 v cin).1.toNat = 2 * v.toNat % 256 + if cin then 1 else 0 := by
  rw [rol8_eq_add, BitVec.toNat_add, asl8_toNat]
  cases cin with
  | false => simp
  | true =>
    simp
    omega

theorem ror8_toNat (v : Byte) (cin : Bool) : (ror8 v cin).1.toNat = v.toNat / 2 + 128 * if cin then 1 else 0 := by
  have hv := v.isLt
  rw [ror8_eq_add, BitVec.toNat_add, lsr8_toNat]
  cases cin <;> simp <;> omega

/-! ### Addition (R150) -/

theorem adc8_r_toNat (a m : Byte) (cin : Bool) : (adc8 a m cin).r.toNat = (a.toNat + m.toNat + cin.toNat) % 256 :=
  BitVec.toNat_ofNat _ _

theorem and_0x80_bne_zero (x : Byte) : (x &&& 0x80 != 0) = x.getLsbD 7 := by
  rw [show (0x80 : Byte) = BitVec.twoPow 8 7 from rfl, BitVec.and_twoPow]
  cases x.getLsbD 7 <;> rfl

/-- V: the operands have one sign, and the result the other. -/
theorem adc8_v_iff (a m : Byte) (cin : Bool) :
    (adc8 a m cin).v = true ↔
      (128 ≤ a.toNat ↔ 128 ≤ m.toNat) ∧ ¬(128 ≤ a.toNat ↔ 128 ≤ (adc8 a m cin).r.toNat) := by
  have hv : (adc8 a m cin).v = (~~~(a ^^^ m) &&& (a ^^^ (adc8 a m cin).r)).getLsbD 7 := and_0x80_bne_zero _
  rw [hv, BitVec.getLsbD_and, BitVec.getLsbD_not, BitVec.getLsbD_xor, BitVec.getLsbD_xor]
  simp only [getLsbD_seven]
  simp

/-- V is the signed overflow. -/
theorem adc8_v_iff_signed_overflow (a m : Byte) (cin : Bool) :
    (adc8 a m cin).v = true ↔ a.toInt + m.toInt + cin.toNat < -128 ∨ 127 < a.toInt + m.toInt + cin.toNat := by
  have ha := a.isLt
  have hm := m.isLt
  have hc := cin.toNat_le
  rw [adc8_v_iff, adc8_r_toNat, BitVec.toInt_eq_toNat_cond a, BitVec.toInt_eq_toNat_cond m]
  split <;> split <;> omega

end Sys2Proof.Machine
end

section
/-! SUPPORT. What a push leaves in memory and what a pop takes from it (R142 to R145). -/

namespace Sys2Proof.Machine

open Sys2Proof.Claims

/-! ### Addresses of the stack -/

theorem not_sameCell_stackAddr {sp sp' : Byte} (h : sp ≠ sp') : ¬SameCell (stackAddr sp) (stackAddr sp') := by
  rintro ⟨-, -, hcell⟩
  have hsp := sp.isLt
  have hsp' := sp'.isLt
  rw [stackAddr_toNat, stackAddr_toNat] at hcell
  exact h (BitVec.eq_of_toNat_eq (by omega))

variable (s : State)

/-! ### Pushes -/

/-- A bus write changes no byte of memory outside the RAM cell it names (R52, R53, R57). -/
theorem wr_byteAt_of_not_sameCell {a b : Addr} (v : Byte) (h : ¬SameCell b a) : (wr a v s).byteAt b = s.byteAt b := by
  by_cases ha : a.toNat ≤ 0x1FFF
  · rw [wr_ramRegion s ha]
    unfold State.byteAt
    by_cases hb : b.toNat ≤ 0x1FFF
    · have hne : ramIndex b ≠ ramIndex a := by
        rw [ramIndex_eq, ramIndex_eq]
        exact fun heq => h ⟨hb, ha, heq⟩
      simp [hb, Memory.read_write_ne hne]
    · simp [hb]
  · refine State.byteAt_congr ?_ (wr_launch s a v) b
    simp only [wr, ha, if_false]
    split <;> rfl

theorem push8_byteAt_of_not_sameCell {b : Addr} (v : Byte) (h : ¬SameCell b (stackAddr s.sp)) :
    (push8 v s).byteAt b = s.byteAt b := wr_byteAt_of_not_sameCell s v h

/-- The low byte lies one below the high byte (R144). -/
theorem push16_byteAt_lo (w : Addr) (hwf : s.ram.wf = true) :
    (push16 w s).byteAt (stackAddr (s.sp - 1)) = some (loByte w) := by
  have hpush := push8_byteAt (push8 (hiByte w) s) (loByte w) (push8_ram_wf s _ hwf)
  rwa [push8_sp] at hpush

theorem push16_byteAt_hi (w : Addr) (hwf : s.ram.wf = true) :
    (push16 w s).byteAt (stackAddr s.sp) = some (hiByte w) := by
  rw [push16, push8_byteAt_of_not_sameCell, push8_byteAt s _ hwf]
  rw [push8_sp]
  exact not_sameCell_stackAddr (by bv_omega)

theorem push16_byteAt_of_not_sameCell {b : Addr} (w : Addr) (hhi : ¬SameCell b (stackAddr s.sp))
    (hlo : ¬SameCell b (stackAddr (s.sp - 1))) : (push16 w s).byteAt b = s.byteAt b := by
  rw [push16, push8_byteAt_of_not_sameCell, push8_byteAt_of_not_sameCell s _ hhi]
  rwa [push8_sp]

/-! ### Pops -/

variable {s}

theorem pop8_of_byteAt {v : Byte} (h : s.byteAt (stackAddr (s.sp + 1)) = some v) :
    pop8 s = (v, s.setSP (s.sp + 1)) := by
  rw [byteAt_stackAddr, Option.some_inj] at h
  rw [pop8_eq, ramIndex_stackAddr, h]

theorem pop16_of_byteAt {hi lo : Byte} (hlo : s.byteAt (stackAddr (s.sp + 1)) = some lo)
    (hhi : s.byteAt (stackAddr (s.sp + 2)) = some hi) : pop16 s = (word hi lo, s.setSP (s.sp + 2)) := by
  have hsp : s.sp + 1 + 1 = s.sp + 2 := by rw [BitVec.add_assoc]; rfl
  have hpop := pop8_of_byteAt (s := s.setSP (s.sp + 1)) (v := hi) (by rwa [State.setSP_sp, hsp])
  rw [State.setSP_sp, hsp] at hpop
  rw [pop16, pop8_of_byteAt hlo, hpop]
  rfl

variable (s)

theorem pop8_push8 (v : Byte) (hwf : s.ram.wf = true) : pop8 (push8 v s) = (v, (push8 v s).setSP s.sp) := by
  have hsp : (push8 v s).sp + 1 = s.sp := by rw [push8_sp, BitVec.sub_add_cancel]
  have hpop := pop8_of_byteAt (s := push8 v s) (v := v) (by rw [hsp]; exact push8_byteAt s v hwf)
  rwa [hsp] at hpop

theorem pop16_push16 (w : Addr) (hwf : s.ram.wf = true) : pop16 (push16 w s) = (w, (push16 w s).setSP s.sp) := by
  have hsp1 : (push16 w s).sp + 1 = s.sp - 1 := by rw [push16_sp]; bv_omega
  have hsp2 : (push16 w s).sp + 2 = s.sp := by rw [push16_sp, BitVec.sub_add_cancel]
  have hpop := pop16_of_byteAt (s := push16 w s) (by rw [hsp1]; exact push16_byteAt_lo s w hwf)
    (by rw [hsp2]; exact push16_byteAt_hi s w hwf)
  rwa [hsp2, word_hi_lo] at hpop

end Sys2Proof.Machine
end

section
/-! SUPPORT. The family of 40_execution_and_addressing.md: `set_zn`, the stack and the ALU primitives (O31 to O34). -/

namespace Sys2Proof.Claims

open Sys2Proof.Machine

/-- Settles O31: Z and N are the two flags `putZN` writes, and P is all that `set_zn` writes. -/
theorem setZnWritesZAndNOnly : Obligations.SetZnWritesZAndNOnly :=
  ⟨fun v s => ⟨flagsAre_putZN v s.p, rfl⟩, fun s => by simp⟩

/-- Settles O32: what the pushes leave at the addresses the pops read, SP wrapping or not. -/
theorem stackRoundTrips : Obligations.StackRoundTrips :=
  fun s v w hwf => ⟨pop8_push8 s v hwf, pop16_push16 s w hwf, push16_byteAt_hi s w hwf, push16_byteAt_lo s w hwf,
    push16_sp s w, fun _ hhi hlo => push16_byteAt_of_not_sameCell s w hhi hlo⟩

/-- Settles O33: the rotates are the shifts with the carry-in added at the bit the shift leaves 0. -/
theorem shiftPrimitivesAreDoublingAndHalving : Obligations.ShiftPrimitivesAreDoublingAndHalving :=
  fun v cin => ⟨asl8_toNat v, getLsbD_seven v, lsr8_toNat v, getLsbD_zero_eq v, rol8_toNat v cin, getLsbD_seven v,
    ror8_toNat v cin, getLsbD_zero_eq v⟩

/-- Settles O34: V is set when the operands agree in sign and the result does not, which is the signed overflow. -/
theorem adcPrimitiveIsBinaryAddition : Obligations.AdcPrimitiveIsBinaryAddition := by
  intro a m cin
  have hc : cin.toNat = if cin then 1 else 0 := by cases cin <;> rfl
  dsimp only
  rw [← hc]
  refine ⟨adc8_r_toNat a m cin, rfl, ?_, ?_⟩
  · exact Bool.eq_iff_iff.mpr (bne_iff_ne.trans decide_eq_true_iff.symm)
  · rw [Bool.eq_iff_iff, adc8_v_iff_signed_overflow, decide_eq_true_iff]

end Sys2Proof.Claims
end

section
/-! SUPPORT. The NMI output flag (R309): the bus, the instructions and the host's calls leave it alone, and the sample
clears it. -/

namespace Sys2Proof.Machine

variable (s : State)

/-! ### The bus -/

/-- No register write touches the NMI output, one of PPUCTRL included (R64 to R71). -/
theorem ppuRegWrite_nmiPending (i : BitVec 3) (v : Byte) (u : Ppu) :
    (ppuRegWrite i v u).nmiPending = u.nmiPending := by
  unfold ppuRegWrite ppuWriteAddr
  repeat' split
  all_goals rfl

/-- No register read touches the NMI output, one of PPUSTATUS included (R66, R69, R71). -/
theorem ppuRegRead_nmiPending (i : BitVec 3) : (ppuRegRead i s).2.ppu.nmiPending = s.ppu.nmiPending := by
  unfold ppuRegRead
  split <;> rfl

@[simp] theorem rd_nmiPending (a : Addr) : (rd a s).2.ppu.nmiPending = s.ppu.nmiPending := by
  unfold rd prgRead
  split
  · rfl
  split
  · exact ppuRegRead_nmiPending s _
  split <;> rfl

@[simp] theorem wr_nmiPending (a : Addr) (v : Byte) : (wr a v s).ppu.nmiPending = s.ppu.nmiPending := by
  unfold wr
  split
  · rfl
  split
  · exact ppuRegWrite_nmiPending _ v s.ppu
  · rfl

theorem nmiPending_keptByStack (b : Bool) : KeptByStack fun s => s.ppu.nmiPending = b where
  toKeptByUpdates := by constructor <;> simp
  after_setSP := by simp
  after_setP := by simp

/-! ### The dot and the sample -/

/-- Only a vblank edge with the enable set raises the flag (R320 b). -/
theorem ppuStep_nmiPending (u : Ppu) :
    (ppuStep u).nmiPending = (u.nmiPending || (Config.ppuEntersVblank u && decide (128 ≤ u.ctrl.toNat))) := by
  rw [← getLsbD_seven, Bool.and_comm (Config.ppuEntersVblank u)]
  rfl

/-- NMI entry pushes to RAM and reads its vector from PRG, so it reaches no PPU register (R302). -/
@[simp] theorem nmi_ppu : (nmi s).ppu = s.ppu := by
  simp [nmi, interrupt_eq]

theorem deliverNmi_clear (h : s.ppu.nmiPending = false) : deliverNmi s = s := by
  simp [deliverNmi, h]

theorem deliverNmi_pending (h : s.ppu.nmiPending = true) :
    deliverNmi s = (nmi s).setPpu { s.ppu with nmiPending := false } := by
  simp [deliverNmi, h]

theorem deliverNmi_nmiPending : (deliverNmi s).ppu.nmiPending = false := by
  cases h : s.ppu.nmiPending with
  | false => rwa [deliverNmi_clear s h]
  | true => rw [deliverNmi_pending s h, State.setPpu_ppu]

end Sys2Proof.Machine
end

section
/-! SUPPORT. The three bytes an interrupt entry leaves on the stack, and RTI on a state that holds them (R305, R312). -/

namespace Sys2Proof.Claims

open Sys2Proof.Machine

/-- What a run establishes may be weakened. -/
theorem Runs.imp {i : Instr} {s : State} {pc : Addr} {cycles : Nat} {Q R : State → Prop} (himp : ∀ t, Q t → R t)
    (h : Runs i s pc cycles Q) : Runs i s pc cycles R := by
  obtain ⟨t, hexec, hpc, htotal, hremaining, hq⟩ := h
  exact ⟨t, hexec, hpc, htotal, hremaining, himp t hq⟩

end Sys2Proof.Claims

namespace Sys2Proof.Machine

open Sys2Proof.Claims

variable (s : State)

/-! ### The stack after an entry -/

theorem interrupt_sp (vector : Addr) (pushed live : Byte) : (interrupt vector pushed live s).sp = s.sp - 3 := by
  simp only [interrupt, State.setPC_sp, State.setP_sp, readWordLe_sp, push8_sp, push16_sp]
  bv_omega

/-- The status byte is pushed last, one below the two bytes of PC (R305). -/
theorem interrupt_byteAt_of_not_sameCell {b : Addr} (vector : Addr) (pushed live : Byte)
    (h : ¬SameCell b (stackAddr (s.sp - 2))) :
    (interrupt vector pushed live s).byteAt b = (push16 s.pc s).byteAt b := by
  rw [← push16_sp s s.pc] at h
  rw [← push8_byteAt_of_not_sameCell (push16 s.pc s) pushed h]
  exact State.byteAt_congr (by simp [interrupt]) (by simp [interrupt]) b

theorem interrupt_byteAt_lo (vector : Addr) (pushed live : Byte) (hwf : s.ram.wf = true) :
    (interrupt vector pushed live s).byteAt (stackAddr (s.sp - 1)) = some (loByte s.pc) := by
  rw [interrupt_byteAt_of_not_sameCell s _ _ _ (not_sameCell_stackAddr (by bv_omega)), push16_byteAt_lo s _ hwf]

theorem interrupt_byteAt_hi (vector : Addr) (pushed live : Byte) (hwf : s.ram.wf = true) :
    (interrupt vector pushed live s).byteAt (stackAddr s.sp) = some (hiByte s.pc) := by
  rw [interrupt_byteAt_of_not_sameCell s _ _ _ (not_sameCell_stackAddr (by bv_omega)), push16_byteAt_hi s _ hwf]

/-! ### RTI -/

/-- `stackByte` is what memory shows at a place above SP. -/
theorem stackByte_of_byteAt {t : State} {sp k v : Byte} (hsp : t.sp + k = sp) (h : t.byteAt (stackAddr sp) = some v) :
    stackByte t k = v := by
  rw [byteAt_stackAddr, Option.some_inj] at h
  rw [stackByte, hsp, h]

/-- RTI takes P from the byte above SP and PC from the next two, with no 1 added (R241, R312). -/
theorem rti_runs : Runs .rti s (word (stackByte s 3) (stackByte s 2)) 6 fun t =>
    t.p = pulledP (stackByte s 1) ∧ t.sp = s.sp + 3 := by
  refine ⟨retire (interruptReturn (advance 1 6 s)), rfl, ?_⟩
  simp [interruptReturn_eq, ramIndex_stackAddr, stackByte]

/-- RTI on any state with the stack that an entry from `s` leaves: PC and SP are back, and the flags are those of the
pushed byte. -/
theorem rti_after_interrupt (vector : Addr) {pushed : Byte} (live : Byte) {t : State} {flags : List (Flag × Bool)}
    (hwf : s.ram.wf = true) (hram : t.ram = (interrupt vector pushed live s).ram)
    (hlaunch : t.launch = (interrupt vector pushed live s).launch)
    (hsp : t.sp = (interrupt vector pushed live s).sp) (hflags : FlagsAre s.p (pulledP pushed) flags) :
    Runs .rti t s.pc 6 fun u => FlagsAre s.p u.p flags ∧ u.sp = s.sp := by
  have hbyte := State.byteAt_congr hram hlaunch
  rw [interrupt_sp] at hsp
  have hstatus : stackByte t 1 = pushed := stackByte_of_byteAt (sp := s.sp - 2) (by rw [hsp]; bv_omega)
    ((hbyte _).trans (interrupt_byteAt_status s _ _ _ hwf))
  have hlo : stackByte t 2 = loByte s.pc := stackByte_of_byteAt (sp := s.sp - 1) (by rw [hsp]; bv_omega)
    ((hbyte _).trans (interrupt_byteAt_lo s _ _ _ hwf))
  have hhi : stackByte t 3 = hiByte s.pc := stackByte_of_byteAt (sp := s.sp) (by rw [hsp, BitVec.sub_add_cancel])
    ((hbyte _).trans (interrupt_byteAt_hi s _ _ _ hwf))
  have hrun := rti_runs t
  rw [hstatus, hlo, hhi, word_hi_lo, hsp, BitVec.sub_add_cancel] at hrun
  exact hrun.imp fun u ⟨hp, hback⟩ => ⟨hp ▸ hflags, hback⟩

/-! ### The flags that come back -/

/-- NMI and IRQ push I = 1 (R302, R303), so it is I = 1 that returns. -/
theorem flagsAre_pulledP_interruptP (p : Byte) :
    FlagsAre p (pulledP (interruptP p)) [(.i, true), (.b, false), (.u, true)] := by
  intro f
  rw [getFlag_pulledP, getFlag_interruptP]
  cases f <;> simp [listedFlag]

/-- BRK pushes the old I (R304), and RTI drops the B it pushed (R312). -/
theorem flagsAre_pulledP_pushedWithB (p : Byte) :
    FlagsAre p (pulledP (pushedWithB p)) [(.b, false), (.u, true)] := by
  intro f
  rw [getFlag_pulledP, getFlag_pushedWithB]
  cases f <;> simp [listedFlag]

end Sys2Proof.Machine
end

section
/-! SUPPORT. The family of 60_exceptions.md: the pending NMI, and RTI after an entry (O10, O15). -/

namespace Sys2Proof.Claims

open Sys2Proof.Machine

/-- Settles O10: the dot raises the flag and the sample clears it; instructions and host calls reach the PPU through its
registers only, which do not hold the flag. -/
theorem onlyThePpuEdgeAndTheClockMoveThePendingNmi : Obligations.OnlyThePpuEdgeAndTheClockMoveThePendingNmi :=
  ⟨ppuStep_nmiPending, fun s => ⟨deliverNmi_clear s, deliverNmi_pending s⟩, deliverNmi_nmiPending,
    fun i _ t ht => (nmiPending_keptByStack _).after_exec i rfl t ht,
    fun _ => ⟨(nmiPending_keptByStack _).after_irq rfl, (nmiPending_keptByStack _).after_cpuReset rfl⟩⟩

/-- Settles O15: RTI takes back the three bytes the entry pushed; the flags that return are those of the pushed byte. -/
theorem rtiUndoesAnInterruptEntry : Obligations.RtiUndoesAnInterruptEntry := by
  intro s hwf
  refine ⟨?nmi, fun hi => ?irq, ?brk, fun r => (rti_runs r).imp fun _ ⟨hp, _⟩ => hp⟩
  case nmi =>
    exact rti_after_interrupt s 0xFFFA (interruptP s.p) hwf (by simp [nmi]) (by simp [nmi]) (by simp [nmi])
      (flagsAre_pulledP_interruptP s.p)
  case irq =>
    rw [irq_taken s hi]
    exact rti_after_interrupt s 0xFFFE (interruptP s.p) hwf (by simp) (by simp) (by simp)
      (flagsAre_pulledP_interruptP s.p)
  case brk =>
    exact rti_after_interrupt s 0xFFFE (putFlag .i true s.p) hwf rfl rfl rfl (flagsAre_pulledP_pushedWithB s.p)

end Sys2Proof.Claims
end

section
/-! SUPPORT. The bodies of the instructions: which registers each can write, and what it leaves in the flags (R141, R151,
R232, R269 to R273). -/

namespace Sys2Proof.Machine

open Sys2Proof.Claims

/-! ### Registers -/

/-- `t` is `u` with other values in P and in the registers of `dests`, and nothing else. -/
def RegistersOnly (dests : List Reg) (u t : State) : Prop :=
  t = { u with a := t.a, x := t.x, y := t.y, sp := t.sp, p := t.p } ∧ ∀ r, r ∉ dests → r.get t = r.get u

namespace RegistersOnly

variable {dests : List Reg} {u t : State}

theorem refl (dests : List Reg) (u : State) : RegistersOnly dests u u := ⟨rfl, fun _ _ => rfl⟩

/-- A further update of registers. -/
theorem update (h : RegistersOnly dests u t) {v : State}
    (hv : v = { t with a := v.a, x := v.x, y := v.y, sp := v.sp, p := v.p })
    (hregs : ∀ r, r ∉ dests → r.get v = r.get t) : RegistersOnly dests u v :=
  ⟨by rw [hv, h.1], fun r hr => (hregs r hr).trans (h.2 r hr)⟩

theorem setA (h : RegistersOnly dests u t) (ha : .a ∈ dests) (v : Byte) : RegistersOnly dests u (t.setA v) := by
  refine h.update rfl fun r hr => ?_
  cases r with
  | a => exact absurd ha hr
  | x | y | sp => rfl

theorem setX (h : RegistersOnly dests u t) (hx : .x ∈ dests) (v : Byte) : RegistersOnly dests u (t.setX v) := by
  refine h.update rfl fun r hr => ?_
  cases r with
  | x => exact absurd hx hr
  | a | y | sp => rfl

theorem setY (h : RegistersOnly dests u t) (hy : .y ∈ dests) (v : Byte) : RegistersOnly dests u (t.setY v) := by
  refine h.update rfl fun r hr => ?_
  cases r with
  | y => exact absurd hy hr
  | a | x | sp => rfl

theorem setSP (h : RegistersOnly dests u t) (hsp : .sp ∈ dests) (v : Byte) : RegistersOnly dests u (t.setSP v) := by
  refine h.update rfl fun r hr => ?_
  cases r with
  | sp => exact absurd hsp hr
  | a | x | y => rfl

theorem setP (h : RegistersOnly dests u t) (v : Byte) : RegistersOnly dests u (t.setP v) :=
  h.update rfl fun r _ => by cases r <;> rfl

theorem setFlag (h : RegistersOnly dests u t) (f : Flag) (v : Bool) : RegistersOnly dests u (t.setFlag f v) := h.setP _

theorem setZN (h : RegistersOnly dests u t) (v : Byte) : RegistersOnly dests u (t.setZN v) := h.setP _

theorem loadA (h : RegistersOnly dests u t) (ha : .a ∈ dests) (v : Byte) :
    RegistersOnly dests u (Machine.loadA v t) := (h.setA ha v).setZN v

theorem loadX (h : RegistersOnly dests u t) (hx : .x ∈ dests) (v : Byte) :
    RegistersOnly dests u (Machine.loadX v t) := (h.setX hx v).setZN v

theorem loadY (h : RegistersOnly dests u t) (hy : .y ∈ dests) (v : Byte) :
    RegistersOnly dests u (Machine.loadY v t) := (h.setY hy v).setZN v

theorem loadAX (h : RegistersOnly dests u t) (ha : .a ∈ dests) (hx : .x ∈ dests) (v : Byte) :
    RegistersOnly dests u (Machine.loadAX v t) := ((h.setX hx v).setA ha v).setZN v

end RegistersOnly

theorem registersOnly_loadA (v : Byte) (u : State) : RegistersOnly [.a] u (loadA v u) :=
  (RegistersOnly.refl _ u).loadA (by decide) v

theorem registersOnly_loadX (v : Byte) (u : State) : RegistersOnly [.x] u (loadX v u) :=
  (RegistersOnly.refl _ u).loadX (by decide) v

theorem registersOnly_loadY (v : Byte) (u : State) : RegistersOnly [.y] u (loadY v u) :=
  (RegistersOnly.refl _ u).loadY (by decide) v

theorem registersOnly_loadAX (v : Byte) (u : State) : RegistersOnly [.a, .x] u (loadAX v u) :=
  (RegistersOnly.refl _ u).loadAX (by decide) (by decide) v

theorem registersOnly_doAdc (m : Byte) (u : State) : RegistersOnly [.a] u (doAdc m u) :=
  (((RegistersOnly.refl _ u).setFlag .c _).setFlag .v _).loadA (by decide) _

theorem registersOnly_doCmp (reg m : Byte) (u : State) : RegistersOnly [] u (doCmp reg m u) :=
  ((RegistersOnly.refl _ u).setFlag .c _).setZN _

theorem registersOnly_bitTest (m : Byte) (u : State) : RegistersOnly [] u (bitTest m u) :=
  (((RegistersOnly.refl _ u).setFlag .z _).setFlag .n _).setFlag .v _

theorem registersOnly_ancBody (m : Byte) (u : State) : RegistersOnly [.a] u (ancBody m u) :=
  (registersOnly_loadA _ u).setFlag .c _

theorem registersOnly_alrBody (m : Byte) (u : State) : RegistersOnly [.a] u (alrBody m u) :=
  ((RegistersOnly.refl _ u).setFlag .c _).loadA (by decide) _

theorem registersOnly_arrBody (m : Byte) (u : State) : RegistersOnly [.a] u (arrBody m u) :=
  ((registersOnly_loadA _ u).setFlag .c _).setFlag .v _

theorem registersOnly_axsBody (m : Byte) (u : State) : RegistersOnly [.x] u (axsBody m u) :=
  ((RegistersOnly.refl _ u).setFlag .c _).loadX (by decide) _

theorem registersOnly_lasBody (m : Byte) (u : State) : RegistersOnly [.a, .x, .sp] u (lasBody m u) :=
  ((RegistersOnly.refl _ u).setSP (by decide) _).loadAX (by decide) (by decide) _

/-! ### Flags -/

theorem flagsAre_refl (p : Byte) : FlagsAre p p [] := fun _ => rfl

theorem flagsAre_of_eq {p q : Byte} (h : q = p) : FlagsAre p q [] := h ▸ flagsAre_refl q

theorem flagsAre_putFlag (f : Flag) (v : Bool) (p : Byte) : FlagsAre p (putFlag f v p) [(f, v)] :=
  fun g => getFlag_putFlag g f v p

/-- A flag written first, and not again, keeps its value. -/
theorem FlagsAre.after_putFlag {f : Flag} {v : Bool} {p q : Byte} {l : List (Flag × Bool)}
    (h : FlagsAre (putFlag f v p) q l) (hf : ∀ old, listedFlag f old l = old) : FlagsAre p q ((f, v) :: l) := by
  intro g
  rw [h g, listedFlag]
  split
  next hg => rw [hg, hf, getFlag_putFlag_same]
  next hg => rw [getFlag_putFlag_ne hg]

/-- A flag written first, and then again, has the later value. -/
theorem FlagsAre.after_putFlag_of_listed {f : Flag} {v : Bool} {p q : Byte} {l : List (Flag × Bool)}
    (h : FlagsAre (putFlag f v p) q l) (hf : ∀ old old', listedFlag f old l = listedFlag f old' l) :
    FlagsAre p q l := by
  intro g
  rw [h g]
  by_cases hg : g = f
  · rw [hg]; exact hf _ _
  · rw [getFlag_putFlag_ne hg]

theorem FlagsAre.then_putFlag {f : Flag} {v : Bool} {p q : Byte} {l : List (Flag × Bool)} (h : FlagsAre p q l) :
    FlagsAre p (putFlag f v q) ((f, v) :: l) := by
  intro g
  rw [getFlag_putFlag, h g]
  rfl

theorem FlagsAre.of_not_listed {old new : Byte} {l : List (Flag × Bool)} (h : FlagsAre old new l) {f : Flag}
    (hf : f ∉ l.map Prod.fst) : getFlag f new = getFlag f old := by
  rw [h f]
  clear h
  induction l with
  | nil => rfl
  | cons e l ih =>
    rw [List.map_cons, List.mem_cons, not_or] at hf
    rw [listedFlag, if_neg hf.1, ih hf.2]

theorem flagsAre_loadA (v : Byte) (u : State) : FlagsAre u.p (loadA v u).p (zn v) := flagsAre_putZN v u.p
theorem flagsAre_loadX (v : Byte) (u : State) : FlagsAre u.p (loadX v u).p (zn v) := flagsAre_putZN v u.p
theorem flagsAre_loadY (v : Byte) (u : State) : FlagsAre u.p (loadY v u).p (zn v) := flagsAre_putZN v u.p
theorem flagsAre_loadAX (v : Byte) (u : State) : FlagsAre u.p (loadAX v u).p (zn v) := flagsAre_putZN v u.p

theorem carry_eq (u : State) : carry u = (u.flag .c).toNat := by
  cases h : u.flag .c <;> simp [carry, h]

theorem doAdc_a_toNat (m : Byte) (u : State) : (doAdc m u).a.toNat = (u.a.toNat + m.toNat + carry u) % 256 := by
  rw [carry_eq]
  exact adc8_r_toNat _ _ _

/-- ADC's flags (R150, R151). -/
theorem flagsAre_doAdc (m : Byte) (u : State) :
    FlagsAre u.p (doAdc m u).p ((.c, decide (255 < u.a.toNat + m.toNat + carry u)) ::
      (.v, outsideSigned (u.a.toInt + m.toInt + carry u)) :: zn (doAdc m u).a) := by
  have hv : (adc8 u.a m (u.flag .c)).v = outsideSigned (u.a.toInt + m.toInt + carry u) := by
    rw [Bool.eq_iff_iff, adc8_v_iff_signed_overflow, outsideSigned, decide_eq_true_iff, carry_eq]
  rw [← hv, carry_eq]
  exact FlagsAre.after_putFlag (FlagsAre.after_putFlag (flagsAre_putZN _ _) fun _ => rfl) fun _ => rfl

theorem xor_0xFF_toNat (m : Byte) : (m ^^^ 0xFF).toNat = 255 - m.toNat := by
  rw [show (0xFF : Byte) = BitVec.allOnes 8 from rfl, BitVec.xor_allOnes, BitVec.toNat_not]

theorem xor_0xFF_toInt (m : Byte) : (m ^^^ 0xFF).toInt = -1 - m.toInt := by
  have hm := m.isLt
  rw [BitVec.toInt_eq_toNat_cond, BitVec.toInt_eq_toNat_cond, xor_0xFF_toNat]
  split <;> split <;> omega

/-- SBC is ADC of the complement (R201). -/
theorem subtracts_doSbc (m : Byte) (u : State) : Subtracts u (doSbc m u) m := by
  have hm := m.isLt
  have hc : carry u ≤ 1 := by rw [carry_eq]; exact Bool.toNat_le _
  have hflags := flagsAre_doAdc (m ^^^ 0xFF) u
  rw [xor_0xFF_toNat, xor_0xFF_toInt] at hflags
  have hcarry : 255 < u.a.toNat + (255 - m.toNat) + carry u ↔ m.toNat + (1 - carry u) ≤ u.a.toNat := by omega
  have hsigned : u.a.toInt + (-1 - m.toInt) + carry u = u.a.toInt - m.toInt - (1 - carry u : Nat) := by omega
  refine ⟨?_, ?_⟩
  · rw [doSbc, doAdc_a_toNat, xor_0xFF_toNat]
    omega
  · rwa [hsigned, decide_eq_decide.mpr hcarry] at hflags

/-- A compare's flags (R151, R202). -/
theorem flagsAre_doCmp (reg m : Byte) (u : State) :
    FlagsAre u.p (doCmp reg m u).p [(.c, decide (m.toNat ≤ reg.toNat)), (.z, decide (reg = m)),
      (.n, decide (128 ≤ (reg.toNat + 256 - m.toNat) % 256))] := by
  have hz : reg - m = 0 ↔ reg = m := sub_eq_zero
  have hn : (reg - m).toNat = (reg.toNat + 256 - m.toNat) % 256 := by
    have hm := m.isLt
    rw [BitVec.toNat_sub]
    omega
  have hflags : FlagsAre u.p (doCmp reg m u).p ((.c, decide (m.toNat ≤ reg.toNat)) :: zn (reg - m)) :=
    FlagsAre.after_putFlag (flagsAre_putZN _ _) fun _ => rfl
  rwa [zn, hn, decide_eq_decide.mpr hz] at hflags

/-- BIT's flags (R232). -/
theorem flagsAre_bitTest (m : Byte) (u : State) :
    FlagsAre u.p (bitTest m u).p
      [(.z, decide (u.a &&& m = 0)), (.n, decide (128 ≤ m.toNat)), (.v, decide (64 ≤ m.toNat % 128))] := by
  have hv : m.getLsbD 6 = decide (64 ≤ m.toNat % 128) := by
    rw [BitVec.getLsbD, Nat.testBit_eq_decide_div_mod_eq, decide_eq_decide]
    omega
  rw [← hv, ← getLsbD_seven, ← beq_eq_decide]
  exact FlagsAre.after_putFlag (FlagsAre.after_putFlag (flagsAre_putFlag .v _ _) fun _ => rfl) fun _ => rfl

/-- ANC's flags (R269). -/
theorem flagsAre_ancBody (m : Byte) (u : State) :
    FlagsAre u.p (ancBody m u).p ((.c, decide (128 ≤ (u.a &&& m).toNat)) :: zn (u.a &&& m)) := by
  have hn : (andA m u).flag .n = decide (128 ≤ (u.a &&& m).toNat) := flagsAre_loadA (u.a &&& m) u .n
  rw [← hn]
  exact FlagsAre.then_putFlag (flagsAre_loadA _ u)

/-- ALR's flags (R270). -/
theorem flagsAre_alrBody (m : Byte) (u : State) :
    FlagsAre u.p (alrBody m u).p ((.c, decide ((u.a &&& m).toNat % 2 = 1)) :: zn (alrBody m u).a) := by
  rw [← getLsbD_zero_eq]
  exact FlagsAre.after_putFlag (flagsAre_putZN _ _) fun _ => rfl

theorem getLsbD_six_eq (v : Byte) : v.getLsbD 6 = decide (v.toNat / 64 % 2 = 1) := Nat.testBit_eq_decide_div_mod_eq

theorem getLsbD_five_eq (v : Byte) : v.getLsbD 5 = decide (v.toNat / 32 % 2 = 1) := Nat.testBit_eq_decide_div_mod_eq

/-- ARR's flags (R271). -/
theorem flagsAre_arrBody (m : Byte) (u : State) :
    FlagsAre u.p (arrBody m u).p ((.c, decide ((arrBody m u).a.toNat / 64 % 2 = 1)) ::
      (.v, decide ((arrBody m u).a.toNat / 64 % 2 ≠ (arrBody m u).a.toNat / 32 % 2)) :: zn (arrBody m u).a) := by
  have hv (r : Byte) : decide (r.toNat / 64 % 2 ≠ r.toNat / 32 % 2) = (r.getLsbD 6 ^^ r.getLsbD 5) := by
    have hiff : r.toNat / 64 % 2 ≠ r.toNat / 32 % 2 ↔ ¬(r.toNat / 64 % 2 = 1 ↔ r.toNat / 32 % 2 = 1) := by omega
    rw [getLsbD_six_eq, getLsbD_five_eq, Bool.eq_iff_iff, decide_eq_true_iff, bne_iff_ne, ne_eq (decide _),
      decide_eq_decide, hiff]
  rw [hv, ← getLsbD_six_eq]
  have hflags : FlagsAre u.p (arrBody m u).p _ :=
    FlagsAre.then_putFlag (FlagsAre.then_putFlag (flagsAre_loadA (arrResult (u.a &&& m) (u.flag .c)) u))
  exact fun f => (hflags f).trans (by cases f <;> rfl)

/-- AXS's flags (R272). -/
theorem flagsAre_axsBody (m : Byte) (u : State) :
    FlagsAre u.p (axsBody m u).p ((.c, decide (m.toNat ≤ (u.a &&& u.x).toNat)) :: zn (axsBody m u).x) :=
  FlagsAre.after_putFlag (flagsAre_putZN _ _) fun _ => rfl

/-- LAS's flags (R273). -/
theorem flagsAre_lasBody (m : Byte) (u : State) : FlagsAre u.p (lasBody m u).p (zn (m &&& u.sp)) := flagsAre_putZN _ u.p

end Sys2Proof.Machine
end

section
/-! SUPPORT. What every instruction charges (30_encoding.md R94, R98; 40_execution_and_addressing.md R122, R131), and so
the bound on `cycles_remaining` (10_state.md R26), with RAM's form (R30): O17. -/

namespace Sys2Proof.Machine

open Sys2Proof.Claims

/-! ### The table of costs -/

/-- The base cycles of an instruction, and whether a page cross costs one more. -/
def cost : Instr → Cost
  | .lda o | .ldx o | .ldy o | .lax o | .and o | .ora o | .eor o | .adc o | .sbc o | .cmp o | .cpx o | .cpy o | .bit o =>
    readCost o
  | .sta o | .stx o | .sty o | .sax o | .ahx o => storeCost o
  | .asl o | .lsr o | .rol o | .ror o | .inc o | .dec o => modifyCost o
  | .slo o | .rla o | .sre o | .rra o | .dcp o | .isc o => modifyCost o
  | .jmp o => jumpCost o
  | .anc _ v | .alr v | .arr v | .axs v | .sbcUndoc v => readCost (.imm v)
  | .las a => readCost (.aby a)
  | .shx a | .tas a => storeCost (.aby a)
  | .shy a => storeCost (.abx a)
  | .nopUndoc (.zp _ a) => readCost (.zp a)
  | .nopUndoc (.zpx _ a) => readCost (.zpx a)
  | .nopUndoc (.abs a) => readCost (.abs a)
  | .nopUndoc (.abx _ a) => readCost (.abx a)
  | .nopUndoc (.imp _) | .nopUndoc (.imm _) | .nop | .xaa | .lxa | .jam _ => ⟨2, false⟩
  | .tax | .tay | .txa | .tya | .tsx | .txs | .inx | .dex | .iny | .dey => ⟨2, false⟩
  | .bcc _ | .bcs _ | .beq _ | .bne _ | .bmi _ | .bpl _ | .bvc _ | .bvs _ => ⟨2, false⟩
  | .clc | .sec | .cli | .sei | .cld | .sed | .clv => ⟨2, false⟩
  | .pha | .php => ⟨3, false⟩
  | .pla | .plp => ⟨4, false⟩
  | .jsr _ | .rts | .rti => ⟨6, false⟩
  | .brk => ⟨7, false⟩

/-- The most cycles above the base: two for a branch, one for a form with the page-cross flag. -/
def maxExtra (i : Instr) : Nat := if isBranch i then 2 else if (cost i).extra then 1 else 0

theorem readCost_le (o : Operand) : (readCost o).charged true ≤ 8 := by cases o <;> simp [readCost, Cost.charged]

theorem storeCost_le (o : Operand) : (storeCost o).charged true ≤ 8 := by cases o <;> simp [storeCost, Cost.charged]

theorem modifyCost_le (o : Operand) : (modifyCost o).charged true ≤ 8 := by cases o <;> simp [modifyCost, Cost.charged]

theorem jumpCost_le (o : Operand) : (jumpCost o).charged true ≤ 8 := by cases o <;> simp [jumpCost, Cost.charged]

theorem maxCost_of_not_branch {i : Instr} (hi : isBranch i = false) :
    (cost i).cycles + maxExtra i = (cost i).charged true := by
  simp [maxExtra, hi, Cost.charged]

theorem cost_le (i : Instr) : (cost i).cycles + maxExtra i ≤ 8 := by
  cases i with
  | lda o | ldx o | ldy o | lax o | and o | ora o | eor o | adc o | sbc o | cmp o | cpx o | cpy o | bit o =>
    exact (maxCost_of_not_branch rfl).trans_le (readCost_le o)
  | sta o | stx o | sty o | sax o | ahx o => exact (maxCost_of_not_branch rfl).trans_le (storeCost_le o)
  | asl o | lsr o | rol o | ror o | inc o | dec o | slo o | rla o | sre o | rra o | dcp o | isc o =>
    exact (maxCost_of_not_branch rfl).trans_le (modifyCost_le o)
  | jmp o => exact (maxCost_of_not_branch rfl).trans_le (jumpCost_le o)
  | nopUndoc f => cases f <;> simp [maxExtra, isBranch, cost, readCost]
  | _ => simp [maxExtra, isBranch, cost, readCost, storeCost]

/-! ### What an instruction cycle charges (R122 steps 4, 7, 8) -/

/-- The outcome is a next state that has charged the base cycles and at most this many more. -/
def Charges (s : State) (cycles most : Nat) (r : Host.Outcome State Fault Refusal) : Prop :=
  ∃ t extra, r = .next t ∧ extra ≤ most ∧ t.totalCycles = s.totalCycles + BitVec.ofNat 64 (cycles + extra) ∧
    t.cyclesRemaining = cycles + extra - 1

/-- The cycle counters are as they were. -/
def KeepsCounters (u t : State) : Prop := t.totalCycles = u.totalCycles ∧ t.cyclesRemaining = u.cyclesRemaining

theorem RegistersOnly.keepsCounters {dests : List Reg} {u t : State} (h : RegistersOnly dests u t) :
    KeepsCounters u t := by
  rw [h.1]
  exact ⟨rfl, rfl⟩

variable {s : State}

theorem charges_runImplied {n c most : Nat} {body : State → State} (hbody : ∀ u, KeepsCounters u (body u)) :
    Charges s c most (runImplied n c body s) := by
  obtain ⟨htotal, hremaining⟩ := hbody (advance n c s)
  exact ⟨_, 0, rfl, Nat.zero_le _, by simp [htotal, hremaining], by simp [hremaining]⟩

theorem charges_runOperand {c : Cost} {o : Operand} {body : Loc → State → State}
    (hbody : ∀ l u, KeepsCounters u (body l u)) :
    Charges s c.cycles (if c.extra then 1 else 0) (runOperand c o body s) := by
  obtain ⟨htotal, hremaining⟩ := hbody (locate o s).loc
    (advance (operandSize o) (c.charged (locate o s).crossed) (locate o s).state)
  refine ⟨_, if c.extra && (locate o s).crossed then 1 else 0, rfl, ?_, ?_, ?_⟩
  · cases c.extra <;> cases (locate o s).crossed <;> simp
  · rw [retire_totalCycles, htotal, hremaining, advance_totalCycles, locate_totalCycles]
    rfl
  · rw [retire_cyclesRemaining, hremaining]
    rfl

theorem keepsCounters_withOperand {use : Byte → State → State} (huse : ∀ m u, KeepsCounters u (use m u)) (l : Loc)
    (u : State) : KeepsCounters u (withOperand use l u) := by
  obtain ⟨htotal, hremaining⟩ := huse (readLoc l u).1 (readLoc l u).2
  exact ⟨by simp [withOperand, htotal], by simp [withOperand, hremaining]⟩

theorem keepsCounters_modifying {f : Byte → State → Byte} {g : Byte → Byte → State → State}
    (hg : ∀ m r u, KeepsCounters u (g m r u)) (l : Loc) (u : State) : KeepsCounters u (modifying f g l u) := by
  obtain ⟨htotal, hremaining⟩ := hg (readLoc l u).1 (f (readLoc l u).1 (readLoc l u).2)
    (writeLoc l (f (readLoc l u).1 (readLoc l u).2) (readLoc l u).2)
  exact ⟨by simp [modifying, htotal], by simp [modifying, hremaining]⟩

theorem keepsCounters_shifting {f : Byte → Bool → Byte × Bool} {andThen : Byte → State → State}
    (hthen : ∀ r u, KeepsCounters u (andThen r u)) (l : Loc) (u : State) :
    KeepsCounters u (shifting f andThen l u) :=
  keepsCounters_modifying (fun _ r u => hthen r (u.setFlag .c _)) l u

theorem keepsCounters_stepping {f : Byte → Byte} {andThen : Byte → State → State}
    (hthen : ∀ r u, KeepsCounters u (andThen r u)) (l : Loc) (u : State) :
    KeepsCounters u (stepping f andThen l u) := keepsCounters_modifying (fun _ r _ => hthen r _) l u

theorem charges_read {c : Cost} {o : Operand} {dests : List Reg} {use : Byte → State → State}
    (huse : ∀ m u, RegistersOnly dests u (use m u)) :
    Charges s c.cycles (if c.extra then 1 else 0) (runOperand c o (withOperand use) s) :=
  charges_runOperand (keepsCounters_withOperand fun m u => (huse m u).keepsCounters)

theorem charges_shift {c : Cost} {o : Operand} {dests : List Reg} {f : Byte → Bool → Byte × Bool}
    {andThen : Byte → State → State} (hthen : ∀ r u, RegistersOnly dests u (andThen r u)) :
    Charges s c.cycles (if c.extra then 1 else 0) (runOperand c o (shifting f andThen) s) :=
  charges_runOperand (keepsCounters_shifting fun r u => (hthen r u).keepsCounters)

theorem charges_step {c : Cost} {o : Operand} {dests : List Reg} {f : Byte → Byte}
    {andThen : Byte → State → State} (hthen : ∀ r u, RegistersOnly dests u (andThen r u)) :
    Charges s c.cycles (if c.extra then 1 else 0) (runOperand c o (stepping f andThen) s) :=
  charges_runOperand (keepsCounters_stepping fun r u => (hthen r u).keepsCounters)

theorem charges_idle {c : Cost} {o : Operand} : Charges s c.cycles (if c.extra then 1 else 0) (idle c o s) :=
  charges_runOperand fun _ _ => ⟨rfl, rfl⟩

theorem charges_inside {n c most : Nat} {dests : List Reg} {body : State → State}
    (hbody : ∀ u, RegistersOnly dests u (body u)) : Charges s c most (runImplied n c body s) :=
  charges_runImplied fun u => (hbody u).keepsCounters

theorem registersOnly_setZN (v : Byte) (u : State) : RegistersOnly [] u (u.setZN v) := (RegistersOnly.refl _ u).setZN v

theorem registersOnly_setFlag (f : Flag) (v : Bool) (u : State) : RegistersOnly [] u (u.setFlag f v) :=
  (RegistersOnly.refl _ u).setFlag f v

/-- A branch charges one more cycle when taken, two when it crosses a page too (R131, R220). -/
theorem charges_branch (taken : Bool) (off : Byte) : Charges s 2 2 (branch taken off s) := by
  unfold branch
  cases taken with
  | false => exact charges_runImplied fun _ => ⟨rfl, rfl⟩
  | true =>
    refine ⟨_, if pageCrossed (branchRef s.launch.branchPageRef s.pc) (branchTarget s.pc off) then 2 else 1, rfl, ?_,
      rfl, rfl⟩
    split <;> decide

/-- Every instruction charges its base cost, and at most `maxExtra` more. -/
theorem exec_charges (i : Instr) (s : State) : Charges s (cost i).cycles (maxExtra i) (exec i s) := by
  cases i with
  | lda | and | ora | eor => exact charges_read fun _ u => registersOnly_loadA _ u
  | ldx => exact charges_read registersOnly_loadX
  | ldy => exact charges_read registersOnly_loadY
  | lax => exact charges_read registersOnly_loadAX
  | adc | sbc | sbcUndoc => exact charges_read fun _ u => registersOnly_doAdc _ u
  | cmp | cpx | cpy => exact charges_read fun m u => registersOnly_doCmp _ m u
  | bit => exact charges_read registersOnly_bitTest
  | anc => exact charges_read registersOnly_ancBody
  | alr => exact charges_read registersOnly_alrBody
  | arr => exact charges_read registersOnly_arrBody
  | axs => exact charges_read registersOnly_axsBody
  | las => exact charges_read registersOnly_lasBody
  | sta | stx | sty | sax => exact charges_runOperand fun l u => ⟨writeLoc_totalCycles u l _, writeLoc_cyclesRemaining u l _⟩
  | asl | lsr | rol | ror => exact charges_shift registersOnly_setZN
  | slo | rla | sre => exact charges_shift fun _ u => registersOnly_loadA _ u
  | rra => exact charges_shift registersOnly_doAdc
  | inc | dec => exact charges_step registersOnly_setZN
  | dcp => exact charges_step fun r u => registersOnly_doCmp _ r u
  | isc => exact charges_step fun _ u => registersOnly_doAdc _ u
  | jmp => exact charges_runOperand fun l _ => by cases l <;> exact ⟨rfl, rfl⟩
  | ahx | shx | shy | tas => exact charges_idle
  | nopUndoc f =>
    cases f with
    | imp | imm => exact charges_runImplied fun _ => ⟨rfl, rfl⟩
    | zp | zpx | abs | abx => exact charges_idle
  | nop | xaa | lxa | jam => exact charges_runImplied fun _ => ⟨rfl, rfl⟩
  | tax | tsx | inx | dex => exact charges_inside fun u => registersOnly_loadX _ u
  | tay | iny | dey => exact charges_inside fun u => registersOnly_loadY _ u
  | txa | tya => exact charges_inside fun u => registersOnly_loadA _ u
  | txs => exact charges_runImplied fun _ => ⟨rfl, rfl⟩
  | clc | sec | cli | sei | cld | sed | clv => exact charges_inside fun u => registersOnly_setFlag _ _ u
  | bcc | bcs | beq | bne | bmi | bpl | bvc | bvs => exact charges_branch _ _
  | pha | php => exact charges_runImplied fun u => ⟨push8_totalCycles u _, push8_cyclesRemaining u _⟩
  | pla => exact charges_runImplied fun u => ⟨pop8_totalCycles u, pop8_cyclesRemaining u⟩
  | plp => exact charges_runImplied fun u => ⟨pop8_totalCycles u, pop8_cyclesRemaining u⟩
  | jsr target =>
    unfold exec execJsr
    exact charges_runImplied fun u => ⟨push16_totalCycles u _, push16_cyclesRemaining u _⟩
  | rts => exact charges_runImplied fun u => ⟨pop16_totalCycles u, pop16_cyclesRemaining u⟩
  | rti => exact charges_runImplied fun u => by simp [KeepsCounters, interruptReturn]
  | brk => exact charges_runImplied fun u => by simp [KeepsCounters, brkEntry, interrupt]

/-- After an instruction at most 7 stall cycles are owed (R26). -/
theorem exec_cyclesRemaining_le {i : Instr} {s t : State} (ht : exec i s = .next t) : t.cyclesRemaining ≤ 7 := by
  obtain ⟨t', extra, ht', hextra, -, hremaining⟩ := exec_charges i s
  rw [ht] at ht'
  cases ht'
  have := cost_le i
  omega

/-! ### The bound on `cycles_remaining` along a step (R26, R301 to R303, R307) -/

theorem hostCall_cyclesRemaining_le (c : HostCall) {s : State} (hs : s.cyclesRemaining ≤ 7) :
    (hostCall c s).cyclesRemaining ≤ 7 := by
  cases c with
  | reset => exact Nat.zero_le 7
  | irq =>
    change (irq s).cyclesRemaining ≤ 7
    unfold irq
    split
    · exact hs
    · exact Nat.le_succ 6

theorem runDue_cyclesRemaining_le (l : List (Nat × HostCall)) {s : State} (hs : s.cyclesRemaining ≤ 7) :
    (runDue l s).cyclesRemaining ≤ 7 := by
  induction l generalizing s with
  | nil => exact hs
  | cons e l ih =>
    unfold runDue
    split
    · exact ih (hostCall_cyclesRemaining_le e.2 hs)
    · exact hs

theorem deliverNmi_cyclesRemaining_le {s : State} (hs : s.cyclesRemaining ≤ 7) :
    (deliverNmi s).cyclesRemaining ≤ 7 := by
  unfold deliverNmi
  split
  · exact Nat.le_refl 7
  · exact hs

theorem cpuStep_cyclesRemaining_le {s t : State} (hs : s.cyclesRemaining ≤ 7) (ht : cpuStep s = .next t) :
    t.cyclesRemaining ≤ 7 := by
  by_cases hstall : 0 < s.cyclesRemaining
  · rw [cpuStep, cpuCall_stall s hstall] at ht
    cases ht
    exact (Nat.sub_le _ 1).trans hs
  · rw [cpuStep_boundary s (Nat.eq_zero_of_not_pos hstall)] at ht
    exact exec_cyclesRemaining_le ht

theorem tick_cyclesRemaining_le {s t : State} (hs : s.cyclesRemaining ≤ 7) (ht : tick s = .next t) :
    t.cyclesRemaining ≤ 7 := by
  by_cases hcpu : s.masterTicks % 3 = 2
  · obtain ⟨u, hu⟩ := cpuStep_completes (dot s)
    rw [tick_cpu s hcpu, hu] at ht
    cases ht
    exact deliverNmi_cyclesRemaining_le (cpuStep_cyclesRemaining_le (s := dot s) hs hu)
  · rw [tick_dot s hcpu] at ht
    cases ht
    exact hs

theorem step_cyclesRemaining_le {s t : State} (hs : s.cyclesRemaining ≤ 7) (ht : step s = .next t) :
    t.cyclesRemaining ≤ 7 := tick_cyclesRemaining_le (runDue_cyclesRemaining_le s.schedule hs) ht

/-! ### RAM's form along a step (R30) -/

theorem wr_ram (s : State) (a : Addr) (v : Byte) :
    (wr a v s).ram = if a.toNat ≤ 0x1FFF then s.ram.write (ramIndex a) v else s.ram := by
  by_cases ha : a.toNat ≤ 0x1FFF
  · rw [wr_ramRegion s ha, if_pos ha]
    rfl
  · simp only [wr, ha, if_false]
    split <;> rfl

/-- The RAM list is in canonical form and within its size. -/
def RamGood (s : State) : Prop := s.ram.wf = true ∧ s.ram.below 2048 = true

theorem wr_ramGood {s : State} (a : Addr) (v : Byte) (hs : RamGood s) : RamGood (wr a v s) := by
  obtain ⟨hwf, hbelow⟩ := hs
  rw [RamGood, wr_ram]
  split
  · exact ⟨Memory.write_wf hwf _ v, Memory.write_below hbelow (ramIndex_lt a) v⟩
  · exact ⟨hwf, hbelow⟩

theorem ramGood_keptByClock : KeptByClock RamGood where
  toKeptByUpdates := by
    constructor
    case after_wr => exact wr_ramGood
    all_goals simp [RamGood]
  after_setSP := by simp [RamGood]
  after_setP := by simp +contextual [RamGood]
  after_setPpu := by simp [RamGood]
  after_setMasterTicks := by simp [RamGood]
  after_setSchedule := by simp [RamGood]

end Sys2Proof.Machine

namespace Sys2Proof.Claims

open Sys2Proof.Machine

/-- Settles O17: the flags, RAM and the launch parameters are kept by every update the machine makes; `cycles_remaining`
is set to at most 7 by an instruction, an interrupt or a reset. -/
theorem everyStepKeepsTheInvariant : Obligations.EveryStepKeepsTheInvariant := by
  rintro s t ⟨hu, hb, hwf, hbelow, hprg, hprgBelow, hlen, hmod, hcycles⟩ ht
  have hflags := uAndB_keptByClock.after_step ⟨hu, hb⟩ t ht
  have hram := ramGood_keptByClock.after_step ⟨hwf, hbelow⟩ t ht
  have hlaunch := (launch_keptByClock s.launch).after_step rfl t ht
  rw [State.Inv, hlaunch]
  exact ⟨hflags.1, hflags.2, hram.1, hram.2, hprg, hprgBelow, hlen, hmod, step_cyclesRemaining_le hcycles ht⟩

end Sys2Proof.Claims
end

section
/-! SUPPORT. The opcode map read in both directions (30_encoding.md R90 to R101). -/

namespace Sys2Proof

/-! ### From an instruction to its bytes and back -/

theorem exists_word (w : Addr) : ∃ hi lo, w = word hi lo := ⟨hiByte w, loByte w, (word_hi_lo w).symm⟩

/-- A row with two operand bytes takes them low first (R93). -/
theorem decode_word {op hi lo : Byte} {i : Instr} (rest : List Byte) (hreads : (row op).reads = 2)
    (hbuild : assemble op lo hi = i) :
    decode (op :: [loByte (word hi lo), hiByte (word hi lo)] ++ rest) = .ok i := by
  simp [decode, hreads, hbuild]

/-- The opcode byte the encoder gives an instruction has its row in the map, and the row builds the instruction back from
its operand bytes. -/
theorem decode_opcode {i : Instr} {op : Byte} (h : opcode i = some op) (rest : List Byte) :
    decode (op :: operandBytes i ++ rest) = .ok i := by
  cases i with
  | lda o | ldx o | ldy o | sta o | stx o | sty o | and o | ora o | eor o | asl o | lsr o | rol o | ror o
  | adc o | sbc o | cmp o | cpx o | cpy o | inc o | dec o | jmp o | bit o
  | slo o | rla o | sre o | rra o | sax o | lax o | dcp o | isc o | ahx o =>
    -- `h` leaves the forms the instruction has
    cases o with
    | acc | imm v | zp a | zpx a | zpy a | izx a | izy a => cases h <;> rfl
    | abs w | abx w | aby w | ind w =>
      obtain ⟨hi, lo, rfl⟩ := exists_word w
      cases h <;> exact decode_word rest rfl rfl
  | jsr w | las w | shx w | shy w | tas w =>
    obtain ⟨hi, lo, rfl⟩ := exists_word w
    cases h
    exact decode_word rest rfl rfl
  | anc k v =>
    cases h
    fin_cases k <;> rfl
  | jam k =>
    cases h
    fin_cases k <;> rfl
  | nopUndoc f =>
    cases h
    cases f with
    | imp k | imm k => fin_cases k <;> rfl
    | zp k a | zpx k a => fin_cases k <;> rfl
    | abs w =>
      obtain ⟨hi, lo, rfl⟩ := exists_word w
      exact decode_word rest rfl rfl
    | abx k w =>
      obtain ⟨hi, lo, rfl⟩ := exists_word w
      fin_cases k <;> exact decode_word rest rfl rfl
  | _ =>
    cases h
    rfl
end Sys2Proof
end

section
/-! SUPPORT. Every row of the opcode map against R98's table (30_encoding.md R90 to R98). -/

namespace Sys2Proof.Machine

open Sys2Proof.Claims

/-- The operand bytes of a row that reads this many. -/
def bytesRead : Nat → Byte → Byte → List Byte
  | 0, _, _ => []
  | 1, lo, _ => [lo]
  | _, lo, hi => [loByte (word hi lo), hiByte (word hi lo)]

/-- What the row builds is well formed, its opcode byte is `op`, the bytes the row reads are its operand bytes, and its
cost and size are the descriptor's. -/
def RowGood (op : Byte) (r : Row) (d : Descriptor) : Prop :=
  ∀ lo hi,
    ((r.build lo hi).wf, opcode (r.build lo hi), if r.reads = 0 then [] else operandBytes (r.build lo hi),
      cost (r.build lo hi), (encode (r.build lo hi)).length) =
    (true, some op, bytesRead r.reads lo hi, ⟨d.cycles, d.extra⟩, d.size)

/-- The rows are good for the opcode bytes from `n` on. -/
def RowsGood : Nat → List Row → List Descriptor → Prop
  | _, [], [] => True
  | n, r :: rs, d :: ds => RowGood (BitVec.ofNat 8 n) r d ∧ RowsGood (n + 1) rs ds
  | _, _, _ => False

theorem RowsGood.append {n : Nat} {rs rs' : List Row} {ds ds' : List Descriptor} (h : RowsGood n rs ds)
    (h' : RowsGood (n + rs.length) rs' ds') : RowsGood n (rs ++ rs') (ds ++ ds') := by
  induction rs generalizing n ds with
  | nil =>
    cases ds with
    | nil => exact h'
    | cons d ds => exact h.elim
  | cons r rs ih =>
    cases ds with
    | nil => exact h.elim
    | cons d ds =>
      obtain ⟨hrow, hrows⟩ := h
      refine ⟨hrow, ih hrows ?_⟩
      rwa [List.length_cons, Nat.add_comm rs.length, ← Nat.add_assoc] at h'

theorem RowsGood.get {n k : Nat} {rs : List Row} {ds : List Descriptor} (h : RowsGood n rs ds) (hk : k < rs.length)
    (r : Row) (d : Descriptor) : RowGood (BitVec.ofNat 8 (n + k)) (rs.getD k r) (ds.getD k d) := by
  induction rs generalizing n k ds with
  | nil => exact absurd hk (Nat.not_lt_zero k)
  | cons r' rs ih =>
    cases ds with
    | nil => exact h.elim
    | cons d' ds =>
      obtain ⟨hrow, hrows⟩ := h
      cases k with
      | zero => exact hrow
      | succ k =>
        rw [show n + (k + 1) = n + 1 + k by omega]
        exact ih hrows (Nat.lt_of_succ_lt_succ hk)

theorem rowsGood_opcodeRows : RowsGood 0 opcodeRows descriptors := by
  unfold opcodeRows descriptors
  -- one goal for each of the sixteen lines of R99
  iterate 15 refine RowsGood.append ?_ ?_
  all_goals
    simp only [rows0x, rows1x, rows2x, rows3x, rows4x, rows5x, rows6x, rows7x, rows8x, rows9x, rowsAx, rowsBx, rowsCx,
      rowsDx, rowsEx, rowsFx, List.length_append, List.length_cons, List.length_nil, Nat.reduceAdd]
    iterate 16 refine ⟨fun _ _ => rfl, ?_⟩
    exact trivial

theorem opcodeRows_length : opcodeRows.length = 256 := by
  unfold opcodeRows
  simp only [List.length_append]
  rfl

theorem descriptors_length : descriptors.length = 256 := by
  unfold descriptors
  simp only [List.length_append]
  rfl

/-- The facts of the opcode map about one opcode byte. -/
theorem assemble_good (op lo hi : Byte) :
    (assemble op lo hi).wf = true ∧ opcode (assemble op lo hi) = some op ∧
    ((row op).reads ≠ 0 → operandBytes (assemble op lo hi) = bytesRead (row op).reads lo hi) ∧
    cost (assemble op lo hi) =
      ⟨(descriptors.getD op.toNat ⟨0, 0, false⟩).cycles, (descriptors.getD op.toNat ⟨0, 0, false⟩).extra⟩ ∧
    (encode (assemble op lo hi)).length = (descriptors.getD op.toNat ⟨0, 0, false⟩).size := by
  have hrow := rowsGood_opcodeRows.get (opcodeRows_length ▸ op.isLt : op.toNat < opcodeRows.length) (.imp .nop) ⟨0, 0, false⟩ lo hi
  rw [Nat.zero_add, BitVec.ofNat_toNat, BitVec.setWidth_eq] at hrow
  obtain ⟨hwf, hop, hbytes, hcost, hsize⟩ : _ ∧ _ ∧ _ ∧ _ ∧ _ := by simpa only [Prod.mk.injEq] using hrow
  exact ⟨hwf, hop, fun hreads => (if_neg hreads).symm.trans hbytes, hcost, hsize⟩

end Sys2Proof.Machine
end

section
/-! SUPPORT. The family of 30_encoding.md (O57 to O60). -/

namespace Sys2Proof

/-- The table gives an opcode byte to exactly the well-formed instructions. -/
theorem wf_eq_isSome_opcode : ∀ i : Instr, i.wf = (opcode i).isSome := by
  open Laws.HasOpcode in
  intro i
  exact match i with
  | .lda o => lda o | .ldx o => ldx o | .ldy o => ldy o | .sta o => sta o | .stx o => stx o | .sty o => sty o
  | .tax => tax | .tay => tay | .txa => txa | .tya => tya | .tsx => tsx | .txs => txs
  | .pha => pha | .php => php | .pla => pla | .plp => plp
  | .and o => and o | .ora o => ora o | .eor o => eor o
  | .asl o => asl o | .lsr o => lsr o | .rol o => rol o | .ror o => ror o
  | .adc o => adc o | .sbc o => sbc o | .cmp o => cmp o | .cpx o => cpx o | .cpy o => cpy o
  | .inc o => inc o | .dec o => dec o | .inx => inx | .dex => dex | .iny => iny | .dey => dey
  | .bcc off => bcc off | .bcs off => bcs off | .beq off => beq off | .bne off => bne off
  | .bmi off => bmi off | .bpl off => bpl off | .bvc off => bvc off | .bvs off => bvs off
  | .jmp o => jmp o | .jsr w => jsr w | .rts => rts | .bit o => bit o
  | .clc => clc | .sec => sec | .cli => cli | .sei => sei | .cld => cld | .sed => sed | .clv => clv
  | .brk => brk | .rti => rti | .nop => nop
  | .slo o => slo o | .rla o => rla o | .sre o => sre o | .rra o => rra o | .sax o => sax o | .lax o => lax o
  | .dcp o => dcp o | .isc o => isc o | .anc k v => anc k v | .alr v => alr v | .arr v => arr v | .axs v => axs v
  | .las w => las w | .nopUndoc f => nopUndoc f | .sbcUndoc v => sbcUndoc v
  | .xaa => xaa | .ahx o => ahx o | .shx w => shx w | .shy w => shy w | .tas w => tas w | .lxa => lxa | .jam k => jam k

theorem encode_of_opcode {i : Instr} {op : Byte} (h : opcode i = some op) : encode i = op :: operandBytes i := by
  rw [encode, h]

end Sys2Proof

namespace Sys2Proof.Claims

open Sys2Proof.Machine

/-- Settles O57: a well-formed instruction has an opcode byte, and the row of that byte builds it back. -/
theorem decodeOfEncodeIsTheInstruction : Obligations.DecodeOfEncodeIsTheInstruction := by
  intro i rest hwf
  rw [wf_eq_isSome_opcode, Option.isSome_iff_exists] at hwf
  obtain ⟨op, hop⟩ := hwf
  rw [encode_of_opcode hop]
  exact decode_opcode hop rest

/-- Settles O58: by the facts of the opcode map, for a row that reads no, one or two operand bytes. -/
theorem everyOpcodeByteDecodesToItsOwnInstruction : Obligations.EveryOpcodeByteDecodesToItsOwnInstruction := by
  intro op lo hi
  have hreads := row_reads_le op
  obtain h | h | h : (row op).reads = 0 ∨ (row op).reads = 1 ∨ (row op).reads = 2 := by omega
  · obtain ⟨hwf, hop, -⟩ := assemble_good op 0 0
    exact ⟨_, by simp [decode, h], hwf, hop, .inl h⟩
  · obtain ⟨hwf, hop, hbytes, -⟩ := assemble_good op lo 0
    refine ⟨_, by simp [decode, h], hwf, hop, .inr (.inl ⟨h, ?_⟩)⟩
    rw [encode_of_opcode hop, hbytes (by omega), h]
    rfl
  · obtain ⟨hwf, hop, hbytes, -⟩ := assemble_good op lo hi
    refine ⟨_, by simp [decode, h], hwf, hop, .inr (.inr ⟨h, ?_⟩)⟩
    rw [encode_of_opcode hop, hbytes (by omega), h]
    simp [bytesRead]

/-- Settles O59: each word is evaluated. -/
theorem sampleWordsDecodeAsTheSpecWritesThem : Obligations.SampleWordsDecodeAsTheSpecWritesThem := by
  unfold Obligations.SampleWordsDecodeAsTheSpecWritesThem
  decide

/-- Settles O60: the instruction of an opcode byte has the map's cost, which is what it charges. -/
theorem everyOpcodeHasItsSizeAndCost : Obligations.EveryOpcodeHasItsSizeAndCost := by
  refine ⟨descriptors_length, fun op lo hi s => ?_⟩
  obtain ⟨-, -, -, hcost, hsize⟩ := assemble_good op lo hi
  obtain ⟨t, extra, ht, hextra, htotal, hremaining⟩ := exec_charges (assemble op lo hi) s
  rw [maxExtra, hcost] at hextra
  rw [hcost] at htotal hremaining
  exact ⟨hsize, t, extra, ht, hextra, htotal, hremaining⟩

end Sys2Proof.Claims
end

section
/-! SUPPORT. Fetching an instruction, and the step that runs it (R122, R307). -/

namespace Sys2Proof.Machine

variable {s : State}

/-! ### The fetch -/

theorem decode_of_reads_zero {op : Byte} (h : (row op).reads = 0) (rest : List Byte) :
    decode (op :: rest) = .ok (assemble op 0 0) := by
  simp [decode, h]

theorem decode_of_reads_one {op : Byte} (h : (row op).reads = 1) (lo : Byte) (rest : List Byte) :
    decode (op :: lo :: rest) = .ok (assemble op lo 0) := by
  simp [decode, h]

theorem decode_of_reads_two {op : Byte} (h : (row op).reads = 2) (lo hi : Byte) (rest : List Byte) :
    decode (op :: lo :: hi :: rest) = .ok (assemble op lo hi) := by
  simp [decode, h]

theorem fetch_of_reads_zero (h : (row (rd s.pc s).1).reads = 0) :
    fetch s = (assemble (rd s.pc s).1 0 0, (rd s.pc s).2) := by
  simp [fetch, h]

theorem fetch_of_reads_one (h : (row (rd s.pc s).1).reads = 1) :
    fetch s = (assemble (rd s.pc s).1 (rd (s.pc + 1) (rd s.pc s).2).1 0, (rd (s.pc + 1) (rd s.pc s).2).2) := by
  simp [fetch, h]

theorem fetch_of_reads_two (h : (row (rd s.pc s).1).reads = 2) :
    fetch s =
      (assemble (rd s.pc s).1 (rd (s.pc + 1) (rd s.pc s).2).1 (rd (s.pc + 2) (rd (s.pc + 1) (rd s.pc s).2).2).1,
        (rd (s.pc + 2) (rd (s.pc + 1) (rd s.pc s).2).2).2) := by
  simp [fetch, h]

/-- Where memory stands, a bus read gives its byte and changes nothing (R51). -/
theorem rd_of_byteAt {a : Addr} {v : Byte} (h : s.byteAt a = some v) : rd a s = (v, s) := by
  unfold State.byteAt at h
  split at h
  next ha =>
    rw [rd_ramRegion s ha, Option.some.inj h]
  next =>
    split at h
    next ha => rw [rd_prgRegion s ha, Option.some.inj h]
    · cases h

/-- Where memory shows an instruction's bytes from PC on, the fetch gives the instruction and changes nothing. -/
theorem fetch_of_byteAt {bytes : List Byte} {i : Instr} (hi : decode bytes = .ok i)
    (hbytes : ∀ (k : Nat) (h : k < bytes.length), s.byteAt (s.pc + BitVec.ofNat 16 k) = some bytes[k]) :
    fetch s = (i, s) := by
  cases bytes with
  | nil => cases hi
  | cons op operands =>
    have hop : rd s.pc s = (op, s) := 
      rd_of_byteAt ((congrArg s.byteAt (BitVec.add_zero s.pc).symm).trans (hbytes 0 (by simp)))
    have hreads := row_reads_le op
    obtain h | h | h : (row op).reads = 0 ∨ (row op).reads = 1 ∨ (row op).reads = 2 := by omega
    · rw [decode_of_reads_zero h] at hi
      rw [fetch_of_reads_zero (by rwa [hop]), hop, Except.ok.inj hi]
    · cases operands with
      | nil => simp [decode, h] at hi
      | cons lo rest =>
        have hlo : rd (s.pc + 1) s = (lo, s) := rd_of_byteAt (hbytes 1 (by simp))
        rw [decode_of_reads_one h] at hi
        rw [fetch_of_reads_one (by rwa [hop]), hop, hlo, Except.ok.inj hi]
    · match operands with
      | [] | [_] => simp [decode, h] at hi
      | lo :: hi' :: rest =>
        have hlo : rd (s.pc + 1) s = (lo, s) := rd_of_byteAt (hbytes 1 (by simp))
        have hhi : rd (s.pc + 2) s = (hi', s) := rd_of_byteAt (hbytes 2 (by simp))
        rw [decode_of_reads_two h] at hi
        rw [fetch_of_reads_two (by rwa [hop]), hop, hlo, hhi, Except.ok.inj hi]

/-! ### The step -/

/-- With no call due, a step on a third tick runs the CPU step after the dot, then the sample (R307). -/
theorem step_cpu (hdue : ∀ e ∈ s.schedule, s.masterTicks < e.1) (hcpu : s.masterTicks % 3 = 2) :
    step s = afterCpuStep (cpuStep (dot s)) := by
  rw [step, hostGap_none_due s hdue, tick_cpu s hcpu]

/-- With no call due, a step on another tick is a dot (R307). -/
theorem step_dot (hdue : ∀ e ∈ s.schedule, s.masterTicks < e.1) (hcpu : s.masterTicks % 3 ≠ 2) :
    step s = .next (dot s) := by
  rw [step, hostGap_none_due s hdue, tick_dot s hcpu]

theorem hostGap_one_due {n : Nat} {c : HostCall} {rest : List (Nat × HostCall)} (hs : s.schedule = (n, c) :: rest)
    (hn : n ≤ s.masterTicks) (hrest : ∀ e ∈ rest, s.masterTicks < e.1)
    (hticks : (hostCall c s).masterTicks = s.masterTicks) : hostGap s = (hostCall c s).setSchedule rest := by
  rw [hostGap, hs, runDue, if_pos hn]
  cases rest with
  | nil => rfl
  | cons e rest =>
    have he : ¬e.1 ≤ (hostCall c s).masterTicks := by
      have := hrest e (by simp)
      omega
    rw [runDue, if_neg he]

theorem cpuReset_eq (s : State) :
    cpuReset s = { s with
      a := 0x00, x := 0x00, y := 0x00, sp := 0xFD, p := 0x24
      pc := word (s.launch.prg.read (0x7FFD % s.launch.prgLen)) (s.launch.prg.read (0x7FFC % s.launch.prgLen))
      cyclesRemaining := 0 } := by
  rw [cpuReset, readWordLe_prg _ (by decide) (by decide)]
  rfl

theorem masterTicks_keptByStack (n : Nat) : KeptByStack fun s => s.masterTicks = n where
  toKeptByUpdates := by constructor <;> simp
  after_setSP := by simp
  after_setP := by simp

theorem hostCall_masterTicks (c : HostCall) (s : State) : (hostCall c s).masterTicks = s.masterTicks := by
  cases c with
  | irq => exact (masterTicks_keptByStack _).after_irq rfl
  | reset => exact (masterTicks_keptByStack _).after_cpuReset rfl

theorem runDue_masterTicks (l : List (Nat × HostCall)) (s : State) : (runDue l s).masterTicks = s.masterTicks := by
  induction l generalizing s with
  | nil => rfl
  | cons e l ih =>
    unfold runDue
    split
    · exact (ih _).trans (hostCall_masterTicks e.2 s)
    · rfl

theorem cpuStep_masterTicks {t : State} (ht : cpuStep s = .next t) : t.masterTicks = s.masterTicks := by
  by_cases hstall : 0 < s.cyclesRemaining
  · rw [cpuStep, cpuCall_stall s hstall] at ht
    cases ht
    rfl
  · rw [cpuStep_boundary s (Nat.eq_zero_of_not_pos hstall)] at ht
    have hkept := masterTicks_keptByStack s.masterTicks
    exact hkept.after_exec _ (hkept.toKeptByUpdates.after_fetch rfl) t ht

theorem deliverNmi_masterTicks (s : State) : (deliverNmi s).masterTicks = s.masterTicks := by
  unfold deliverNmi
  split
  · exact (masterTicks_keptByStack _).after_nmi rfl
  · rfl

/-- One step is one master tick (R307). -/
theorem step_masterTicks {t : State} (ht : step s = .next t) : t.masterTicks = s.masterTicks + 1 := by
  have hgap : (hostGap s).masterTicks = s.masterTicks := runDue_masterTicks _ s
  rw [← hgap]
  by_cases hcpu : (hostGap s).masterTicks % 3 = 2
  · obtain ⟨u, hu⟩ := cpuStep_completes (dot (hostGap s))
    rw [step, tick_cpu _ hcpu, hu] at ht
    cases ht
    exact (deliverNmi_masterTicks u).trans (cpuStep_masterTicks hu)
  · rw [step, tick_dot _ hcpu] at ht
    cases ht
    rfl

theorem run_succ_of_next {M : Host.Core} {n : Nat} {s u : M.State} (h : M.step s = .next u) :
    M.run (n + 1) s = M.run n u := by
  rw [Host.Core.run, h]

/-- What every step raises by 1, a run of `n` steps raises by `n`. -/
theorem run_counts {M : Host.Core} {f : M.State → Nat} (hstep : ∀ s t, M.step s = .next t → f t = f s + 1) {n : Nat}
    {s t : M.State} (hrun : M.run n s = .next t) : f t = f s + n := by
  induction n generalizing s with
  | zero =>
    cases hrun
    rfl
  | succ n ih =>
    unfold Host.Core.run at hrun
    split at hrun
    next u hu => rw [ih hrun, hstep s u hu, Nat.add_assoc, Nat.add_comm 1]
    · cases hrun
    · cases hrun

end Sys2Proof.Machine

namespace Sys2Proof.Claims

open Sys2Proof.Machine

/-- Settles O1: construction is the first reset, of a state whose PRG is the cartridge's. -/
theorem launchGivesThePowerOnState : Obligations.LaunchGivesThePowerOnState := by
  intro l
  refine ⟨fun hpos hmod => ?_, fun hbad => by simp only [launch, hbad, if_true]⟩
  refine ⟨cpuReset { State.reset with launch := l }, by simp [launch, hpos, hmod], ?_⟩
  rw [cpuReset_eq]
  refine ⟨rfl, rfl, rfl, rfl, rfl, rfl, rfl, rfl, fun b hb => ?_, rfl, rfl, rfl, rfl, rfl, rfl, rfl, rfl, rfl, rfl, rfl⟩
  simp only [State.byteAt, hb, if_true]
  rfl

/-- Settles O2: the vector is read from PRG, without a side effect. -/
theorem externalResetSetsSevenRegistersOnly : Obligations.ExternalResetSetsSevenRegistersOnly := cpuReset_eq

/-- Settles O3: the CPU step at a boundary is `exec` of what is fetched, and memory's bytes are fetched as they are. -/
theorem stepRunsTheDecodedInstruction : Obligations.StepRunsTheDecodedInstruction := by
  intro s hdue hcpu hboundary
  have hstep : step s = afterCpuStep (exec (fetch (dot s)).1 (fetch (dot s)).2) := by
    rw [step_cpu hdue hcpu, cpuStep_boundary (dot s) hboundary]
  refine ⟨hstep, fun bytes i hi _ hbytes => ?_⟩
  rw [hstep, fetch_of_byteAt (s := dot s) hi hbytes]

/-- Settles O4: one case for each number of operand bytes. -/
theorem fetchDecodesTheBytesItReadsInOrder : Obligations.FetchDecodesTheBytesItReadsInOrder := by
  intro s
  have hreads := row_reads_le (rd s.pc s).1
  obtain h | h | h : (row (rd s.pc s).1).reads = 0 ∨ (row (rd s.pc s).1).reads = 1 ∨ (row (rd s.pc s).1).reads = 2 := by
    omega
  · exact .inl ⟨h, by rw [fetch_of_reads_zero h, decode_of_reads_zero h], by rw [fetch_of_reads_zero h]⟩
  · exact .inr (.inl ⟨h, by rw [fetch_of_reads_one h, decode_of_reads_one h], by rw [fetch_of_reads_one h]⟩)
  · exact .inr (.inr ⟨h, by rw [fetch_of_reads_two h, decode_of_reads_two h], by rw [fetch_of_reads_two h]⟩)

theorem cpuStep_stall {s : State} (h : 0 < s.cyclesRemaining) :
    cpuStep s = .next (s.setCyclesRemaining (s.cyclesRemaining - 1)) := by
  rw [cpuStep, cpuCall_stall s h]

theorem cpuSteps_owed {k : Nat} {s : State} (h : s.cyclesRemaining = k) :
    cpuSteps k s = .next (s.setCyclesRemaining 0) := by
  induction k generalizing s with
  | zero =>
    rw [cpuSteps, State.setCyclesRemaining, ← h]
  | succ k ih =>
    rw [cpuSteps, cpuStep_stall (by omega)]
    exact ih (s := s.setCyclesRemaining (s.cyclesRemaining - 1)) (by rw [State.setCyclesRemaining_cyclesRemaining]; omega)

/-- Settles O5: by induction on the cycles owed. -/
theorem stallStepsOnlyCountDownToTheBoundary : Obligations.StallStepsOnlyCountDownToTheBoundary :=
  ⟨fun s h => ⟨cpuStep_stall h, by rw [cpuCall_stall s h]⟩, fun _ => cpuSteps_owed rfl⟩

/-- Settles O6: the tick is a dot, which keeps the latches. -/
theorem otherTicksRunOnlyThePpu : Obligations.OtherTicksRunOnlyThePpu :=
  fun s hdue hcpu => ⟨dot s, step_dot hdue hcpu, rfl, rfl, rfl, rfl, rfl⟩

/-- Settles O7: the NMI output by its rule, the vblank bit by whether the dot enters vblank. -/
theorem ppuDotKeepsItsContract : Obligations.PpuDotKeepsItsContract := by
  intro u
  refine ⟨rfl, rfl, rfl, rfl, ?_, ?_⟩
  · rw [ppuStep_nmiPending]
    simp
  · cases h : Config.ppuEntersVblank u with
    | false => simp [ppuStep, h]
    | true =>
      have hbit : (ppuStep u).status.getLsbD 7 = true := by simp [ppuStep, h]
      rw [getLsbD_seven, decide_eq_true_iff] at hbit
      simp [hbit]

/-- Settles O8: the sample delivers a pending NMI once and clears the flag. -/
theorem nmiIsSampledAfterTheCpuStep : Obligations.NmiIsSampledAfterTheCpuStep := by
  intro s hdue hcpu u hu
  exact ⟨deliverNmi u, by rw [step_cpu hdue hcpu, hu]; rfl, deliverNmi_nmiPending u, deliverNmi_clear u,
    deliverNmi_pending u⟩

/-- Settles O9: the call that is due runs in the gap, and no other. -/
theorem scheduledHostCallRunsInItsGap : Obligations.ScheduledHostCallRunsInItsGap := by
  intro s n c rest hs hn hrest
  have hgap := hostGap_one_due hs hn hrest (hostCall_masterTicks c s)
  constructor <;>
  · rintro rfl
    exact congrArg tick hgap

/-- Settles O21: a step is a tick, and the third of three ticks carries the CPU step. -/
theorem runsCountOneTickPerStep : Obligations.RunsCountOneTickPerStep := by
  refine ⟨fun n s t => run_counts (M := core) (f := State.masterTicks) fun _ _ => step_masterTicks,
    fun s hschedule hticks => ?_⟩
  have hdue : ∀ n, ∀ e ∈ s.schedule, n < e.1 := by simp [hschedule]
  have h1 : step s = .next (dot s) := step_dot (hdue _) (by omega)
  have h2 : step (dot s) = .next (dot (dot s)) := step_dot (hdue _) (by rw [dot_masterTicks]; omega)
  have h3 : step (dot (dot s)) = afterCpuStep (cpuStep (dot (dot (dot s)))) :=
    step_cpu (hdue _) (by rw [dot_masterTicks, dot_masterTicks]; omega)
  obtain ⟨u, hu⟩ := step_completes (dot (dot s))
  rw [← h3, hu]
  exact (run_succ_of_next (M := core) h1).trans ((run_succ_of_next h2).trans (run_succ_of_next hu))

/-- Settles O16: each part of the invariant is evaluated. -/
theorem powerOnStateIsGood : Obligations.PowerOnStateIsGood := by
  unfold Obligations.PowerOnStateIsGood State.Inv
  decide

end Sys2Proof.Claims
end

section
/-! SUPPORT. What the operations leave alone, in the words of the statements: `Keeps`, `KeepsMemory`, the PPU. -/

namespace Sys2Proof.Machine

open Sys2Proof.Claims

variable {s u t : State} {dests : List Reg}

/-! ### `Keeps` -/

theorem keeps_refl (dests : List Reg) (s : State) : Keeps s s dests := ⟨fun _ _ => rfl, rfl, rfl, rfl, rfl⟩

theorem Keeps.trans (h : Keeps s u dests) (h' : Keeps u t dests) : Keeps s t dests := by
  obtain ⟨hregs, hticks, hlaunch, hschedule, hnmi⟩ := h
  obtain ⟨hregs', hticks', hlaunch', hschedule', hnmi'⟩ := h'
  exact ⟨fun r hr => (hregs' r hr).trans (hregs r hr), hticks'.trans hticks, hlaunch'.trans hlaunch,
    hschedule'.trans hschedule, hnmi'.trans hnmi⟩

/-- What keeps every register keeps those that are not listed. -/
theorem Keeps.weaken (h : Keeps s t []) (dests : List Reg) : Keeps s t dests :=
  ⟨fun r _ => h.1 r List.not_mem_nil, h.2⟩

theorem keeps_rd (a : Addr) (s : State) : Keeps s (rd a s).2 [] :=
  ⟨fun r _ => by cases r <;> simp [Reg.get], by simp, by simp, by simp, by simp⟩

theorem keeps_wr (a : Addr) (v : Byte) (s : State) : Keeps s (wr a v s) [] :=
  ⟨fun r _ => by cases r <;> simp [Reg.get], by simp, by simp, by simp, by simp⟩

theorem keeps_readWordBug (a : Addr) (s : State) : Keeps s (readWordBug a s).2 [] :=
  Keeps.trans (keeps_rd a s) (keeps_rd _ _)

theorem keeps_locate (o : Operand) (s : State) : Keeps s (locate o s).state [] := by
  cases o with
  | acc | imm | zp | zpx | zpy | abs | abx | aby => exact keeps_refl [] s
  | ind | izx | izy => exact keeps_readWordBug _ s

theorem keeps_readLoc (l : Loc) (s : State) : Keeps s (readLoc l s).2 [] := by
  cases l with
  | acc | imm => exact keeps_refl [] s
  | mem ea => exact keeps_rd ea s

theorem keeps_operandRead (o : Operand) (s : State) : Keeps s (operandRead o s).2 [] :=
  Keeps.trans (keeps_locate o s) (keeps_readLoc _ _)

theorem keepsMemory_operandRead (o : Operand) (s : State) : KeepsMemory s (operandRead o s).2 := fun b => by
  simp [operandRead]

theorem keeps_push8 (v : Byte) (s : State) : Keeps s (push8 v s) [.sp] := by
  refine ⟨fun r hr => ?_, by simp, by simp, by simp, by simp⟩
  cases r with
  | sp => exact absurd (List.mem_singleton.mpr rfl) hr
  | a | x | y => simp [Reg.get]

theorem keeps_push16 (w : Addr) (s : State) : Keeps s (push16 w s) [.sp] := 
  Keeps.trans (keeps_push8 _ s) (keeps_push8 _ _)

/-! ### Changes inside the CPU -/

/-- `t` is `s` with other values in P, PC, the cycle counters and the registers of `dests`, and nothing else. -/
def CpuOnly (dests : List Reg) (s t : State) : Prop :=
  t = { s with
    a := t.a, x := t.x, y := t.y, sp := t.sp, p := t.p, pc := t.pc
    cyclesRemaining := t.cyclesRemaining, totalCycles := t.totalCycles } ∧
  ∀ r, r ∉ dests → r.get t = r.get s

theorem RegistersOnly.cpuOnly (h : RegistersOnly dests s t) : CpuOnly dests s t := ⟨by rw [h.1], h.2⟩

theorem cpuOnly_setPC (dests : List Reg) (v : Addr) (s : State) : CpuOnly dests s (s.setPC v) :=
  ⟨rfl, fun r _ => by cases r <;> rfl⟩

theorem cpuOnly_setCyclesRemaining (dests : List Reg) (n : Nat) (s : State) :
    CpuOnly dests s (s.setCyclesRemaining n) := ⟨rfl, fun r _ => by cases r <;> rfl⟩

theorem cpuOnly_advance (dests : List Reg) (n c : Nat) (s : State) : CpuOnly dests s (advance n c s) :=
  ⟨rfl, fun r _ => by cases r <;> rfl⟩

theorem cpuOnly_retire (dests : List Reg) (s : State) : CpuOnly dests s (retire s) :=
  ⟨rfl, fun r _ => by cases r <;> rfl⟩

namespace CpuOnly

theorem trans (h : CpuOnly dests s u) (h' : CpuOnly dests u t) : CpuOnly dests s t :=
  ⟨by rw [h'.1, h.1], fun r hr => (h'.2 r hr).trans (h.2 r hr)⟩

theorem ppu (h : CpuOnly dests s t) : t.ppu = s.ppu := by rw [h.1]

theorem keeps (h : CpuOnly dests s t) : Keeps s t dests := ⟨h.2, by rw [h.1], by rw [h.1], by rw [h.1], by rw [h.1]⟩

theorem keepsMemory (h : CpuOnly dests s t) : KeepsMemory s t := by
  rw [h.1]
  exact fun _ => rfl

end CpuOnly

/-- The instruction cycle around a body that changes registers only. -/
theorem RegistersOnly.cycle {n c : Nat} (h : RegistersOnly dests (advance n c s) u) : CpuOnly dests s (retire u) :=
  ((cpuOnly_advance dests n c s).trans h.cpuOnly).trans (cpuOnly_retire dests u)

end Sys2Proof.Machine
end

section
/-! SUPPORT. The interrupt entries and RTI (60_exceptions.md R302 to R305, R312; O11 to O14). -/

namespace Sys2Proof.Machine

open Sys2Proof.Claims

variable (s : State)

theorem cpuOnly_loads (dests : List Reg) (p : Byte) (pc : Addr) (t : State) :
    CpuOnly dests t ((t.setP p).setPC pc) :=
  ((RegistersOnly.refl _ t).setP p).cpuOnly.trans (cpuOnly_setPC _ _ _)

theorem interrupt_byteAt_of_not_pushed {b : Addr} (vector : Addr) (pushed live : Byte)
    (hhi : ¬SameCell b (stackAddr s.sp)) (hlo : ¬SameCell b (stackAddr (s.sp - 1)))
    (hstatus : ¬SameCell b (stackAddr (s.sp - 2))) : (interrupt vector pushed live s).byteAt b = s.byteAt b := by
  rw [interrupt_byteAt_of_not_sameCell s _ _ _ hstatus, push16_byteAt_of_not_sameCell s _ hhi hlo]

/-- What NMI, IRQ and BRK share (R305), the vector in PRG. -/
theorem interrupt_enters {vector : Addr} (h : 0x8000 ≤ vector.toNat) (h1 : vector.toNat < 0xFFFF)
    (pushed live : Byte) :
    EntersInterrupt s (interrupt vector pushed live s) s.pc vector.toNat pushed := by
  have hnext : (vector + 1).toNat = vector.toNat + 1 := by rw [BitVec.toNat_add]; simp; omega
  refine ⟨interrupt_sp s vector pushed live, ?pc, fun hwf => ?stack, fun b => ?memory, ?keeps, ?ppu⟩
  case pc =>
    rw [interrupt_eq s h h1, prgWord, ← hnext]
    rfl
  case stack =>
    exact ⟨interrupt_byteAt_hi s vector pushed live hwf, interrupt_byteAt_lo s vector pushed live hwf,
      interrupt_byteAt_status s vector pushed live hwf⟩
  case memory => exact interrupt_byteAt_of_not_pushed s vector pushed live
  case keeps =>
    rw [interrupt_eq s h h1]
    exact Keeps.trans (Keeps.trans (keeps_push16 s.pc s) (keeps_push8 pushed _)) (cpuOnly_loads _ _ _ _).keeps
  case ppu => simp [interrupt_eq s h h1]

/-- An entry's words do not speak of the cycle counters, before or after, nor of the PC before. -/
theorem enters_of_cpuOnly {s s' t t' : State} {pc : Addr} {vector : Nat} {pushed : Byte}
    (h : EntersInterrupt s' t pc vector pushed) (hs : CpuOnly [] s s') (ht : CpuOnly [] t t') (hpc : t'.pc = t.pc) :
    EntersInterrupt s t' pc vector pushed := by
  obtain ⟨hsp, hvector, hstack, hmemory, hkeeps, hppu⟩ := h
  have hsp' : s'.sp = s.sp := hs.2 .sp List.not_mem_nil
  have hram : s'.ram = s.ram := by rw [hs.1]
  have hlaunch : s'.launch = s.launch := by rw [hs.1]
  rw [hsp'] at hsp hstack hmemory
  rw [hram] at hstack
  rw [prgWord, hlaunch] at hvector
  refine ⟨(ht.2 .sp List.not_mem_nil).trans hsp, hpc.trans hvector, ?_, fun b hhi hlo hstatus => ?_,
    Keeps.trans (Keeps.weaken hs.keeps _) (Keeps.trans hkeeps (Keeps.weaken ht.keeps _)), ht.ppu.trans (hppu.trans hs.ppu)⟩
  · simpa only [ht.keepsMemory _] using hstack
  · rw [ht.keepsMemory, hmemory b hhi hlo hstatus, hs.keepsMemory]

theorem cpuOnly_setCounters (n : BitVec 64) (c : Nat) (t : State) :
    CpuOnly [] t ((t.setTotalCycles n).setCyclesRemaining c) := ⟨rfl, fun r _ => by cases r <;> rfl⟩

theorem flagsAre_interruptP (p : Byte) : FlagsAre p (interruptP p) [(.i, true), (.b, false), (.u, true)] := by
  intro f
  rw [getFlag_interruptP]
  cases f <;> rfl

theorem flagsAre_pushedWithB (p : Byte) : FlagsAre p (pushedWithB p) [(.b, true), (.u, true)] := by
  intro f
  rw [getFlag_pushedWithB]
  cases f <;> simp [listedFlag]

theorem flagsAre_pulledP (v : Byte) : FlagsAre v (pulledP v) [(.b, false), (.u, true)] := by
  intro f
  rw [getFlag_pulledP]
  cases f <;> rfl

end Sys2Proof.Machine

namespace Sys2Proof.Claims

open Sys2Proof.Machine

/-- Settles O11: the common entry, through FFFA. -/
theorem nmiEntrySavesPcAndStatus : Obligations.NmiEntrySavesPcAndStatus := by
  intro s
  have henters := interrupt_enters s (vector := 0xFFFA) (by decide) (by decide) (interruptP s.p) (interruptP s.p)
  exact ⟨enters_of_cpuOnly henters (RegistersOnly.refl _ s).cpuOnly (cpuOnly_setCounters _ _ _) rfl,
    flagsAre_interruptP s.p, rfl, rfl⟩

/-- Settles O12: with I clear, the common entry through FFFE. -/
theorem irqIsDroppedOrEntered : Obligations.IrqIsDroppedOrEntered := by
  intro s
  refine ⟨fun hi => by simp only [irq, hi, if_true], fun hi => ?_⟩
  have henters := interrupt_enters s (vector := 0xFFFE) (by decide) (by decide) (interruptP s.p) (interruptP s.p)
  rw [irq_taken s hi]
  exact ⟨enters_of_cpuOnly henters (RegistersOnly.refl _ s).cpuOnly (cpuOnly_setCounters _ _ _) rfl,
    flagsAre_interruptP s.p, rfl, rfl⟩

/-- Settles O13: the common entry through FFFE, from the state past the padding byte. -/
theorem brkEntersThroughTheIrqVector : Obligations.BrkEntersThroughTheIrqVector := by
  intro s
  let u := advance (1 + s.launch.brkPad.val) 7 s
  have henters : EntersInterrupt u (brkEntry u) u.pc 0xFFFE (pushedWithB s.p) :=
    interrupt_enters u (vector := 0xFFFE) (by decide) (by decide) (pushedWithB s.p) (putFlag .i true s.p)
  have hpc : u.pc = s.pc + 1 + BitVec.ofNat 16 s.launch.brkPad.val := by
    rw [BitVec.add_assoc]
    exact congrArg (s.pc + ·) (BitVec.ofNat_add 1 _)
  rw [hpc] at henters
  obtain ⟨hkeepsTotal, hkeepsRemaining⟩ : KeepsCounters u (brkEntry u) := by simp [KeepsCounters, brkEntry, interrupt]
  refine ⟨pushedWithB s.p, flagsAre_pushedWithB s.p, retire (brkEntry u), rfl, henters.2.1, ?_, ?_,
    enters_of_cpuOnly henters (cpuOnly_advance _ _ _ s) (cpuOnly_retire _ _) rfl, flagsAre_putFlag .i true s.p⟩
  · rw [retire_totalCycles, hkeepsTotal, hkeepsRemaining]
    rfl
  · rw [retire_cyclesRemaining, hkeepsRemaining]
    rfl

/-- Settles O14: RTI's body takes P and PC from the three bytes above SP, and changes only registers. -/
theorem rtiRestoresPThenPc : Obligations.RtiRestoresPThenPc := by
  intro s
  have hbody : interruptReturn (advance 1 6 s) = (((advance 1 6 s).setSP (s.sp + 3)).setP
      (pulledP (stackByte s 1))).setPC (word (stackByte s 3) (stackByte s 2)) := by
    simp only [interruptReturn_eq, ramIndex_stackAddr]
    rfl
  have hcpu : CpuOnly [.sp] s (retire (interruptReturn (advance 1 6 s))) := by
    rw [hbody]
    exact (((cpuOnly_advance _ 1 6 s).trans ((RegistersOnly.refl _ _).setSP (by decide) _).cpuOnly).trans
      (cpuOnly_loads _ _ _ _)).trans (cpuOnly_retire _ _)
  refine ⟨retire (interruptReturn (advance 1 6 s)), rfl, ?_⟩
  rw [hbody] at hcpu ⊢
  exact ⟨rfl, rfl, rfl, flagsAre_pulledP _, rfl, hcpu.keeps, hcpu.keepsMemory, hcpu.ppu⟩

end Sys2Proof.Claims
end

section
/-! SUPPORT. Byte arrays, words and the bus as arithmetic (R5, R50 to R57, R64 to R71). -/

namespace Sys2Proof

theorem hiByte_toNat (w : Addr) : (hiByte w).toNat = w.toNat / 256 := by
  have hw := congrArg BitVec.toNat (word_hi_lo w)
  have hlo := (loByte w).isLt
  rw [word_toNat] at hw
  omega

theorem loByte_toNat (w : Addr) : (loByte w).toNat = w.toNat % 256 := by
  have hw := congrArg BitVec.toNat (word_hi_lo w)
  have hlo := (loByte w).isLt
  rw [word_toNat] at hw
  omega

end Sys2Proof

namespace Sys2Proof.Machine

/-! ### Byte arrays in canonical form -/

theorem Memory.eq_nil_of_read_zero {lo : Nat} {m : Memory} (hm : m.wfFrom lo = true) (h : ∀ i, m.read i = 0) :
    m = [] := by
  cases m with
  | nil => rfl
  | cons c m =>
    simp only [Memory.wfFrom, Bool.and_eq_true, bne_iff_ne] at hm
    exact absurd (by simpa [Memory.read] using h c.1) hm.1.2

/-- The first index of one of two arrays that read the same is not below that of the other. -/
theorem Memory.first_le_of_read_eq {lo : Nat} {c d : Host.Cell} {m n : Memory}
    (hm : Memory.wfFrom lo (c :: m) = true) (hn : Memory.wfFrom lo (d :: n) = true)
    (h : ∀ i, Memory.read (c :: m) i = Memory.read (d :: n) i) : d.1 ≤ c.1 := by
  simp only [Memory.wfFrom, Bool.and_eq_true, decide_eq_true_eq, bne_iff_ne] at hm hn
  by_contra hlt
  have hn' : Memory.wfFrom d.1 (d :: n) = true := by simpa [Memory.wfFrom, hn.2] using hn.1.2
  have hread := h c.1
  rw [Memory.read_below hn' (by omega)] at hread
  exact hm.1.2 (by simpa [Memory.read] using hread)

theorem Memory.eq_of_read_eq {lo : Nat} {m n : Memory} (hm : m.wfFrom lo = true) (hn : n.wfFrom lo = true)
    (h : ∀ i, m.read i = n.read i) : m = n := by
  induction m generalizing lo n with
  | nil => exact (Memory.eq_nil_of_read_zero hn fun i => (h i).symm).symm
  | cons c m ih =>
    cases n with
    | nil => exact Memory.eq_nil_of_read_zero hm h
    | cons d n =>
      have hcd : c.1 = d.1 := Nat.le_antisymm (Memory.first_le_of_read_eq hn hm fun i => (h i).symm)
        (Memory.first_le_of_read_eq hm hn h)
      have hbyte : c.2 = d.2 := by simpa [Memory.read, hcd] using h c.1
      simp only [Memory.wfFrom, Bool.and_eq_true] at hm hn
      have htail : m = n := by
        refine ih hm.2 (hcd ▸ hn.2) fun i => ?_
        by_cases hi : c.1 = i
        · rw [Memory.read_below hm.2 (by omega), Memory.read_below hn.2 (by omega)]
        · simpa [Memory.read, ← hcd, hi] using h i
      rw [htail, Prod.ext hcd hbyte]

/-! ### Regions of the bus -/

variable (s : State)

theorem ppuIndex_toNat (a : Addr) : (ppuIndex a).toNat = a.toNat % 8 := by
  rw [ppuIndex, BitVec.extractLsb'_toNat, Nat.shiftRight_zero]

theorem rd_ppuRegion {a : Addr} (h : 0x2000 ≤ a.toNat) (h' : a.toNat ≤ 0x3FFF) :
    rd a s = ppuRegRead (ppuIndex a) s := by
  simp only [rd, show ¬a.toNat ≤ 0x1FFF by omega, h', if_true, if_false]

theorem wr_ppuRegion {a : Addr} (h : 0x2000 ≤ a.toNat) (h' : a.toNat ≤ 0x3FFF) (v : Byte) :
    wr a v s = s.setPpu (ppuRegWrite (ppuIndex a) v s.ppu) := by
  simp only [wr, show ¬a.toNat ≤ 0x1FFF by omega, h', if_true, if_false]

theorem rd_cartLowRegion {a : Addr} (h : 0x4000 ≤ a.toNat) (h' : a.toNat ≤ 0x7FFF) :
    rd a s = (Config.cartLowRead s.freeReads a, s.setFreeReads (s.freeReads + 1)) := by
  simp only [rd, prgRead, show ¬a.toNat ≤ 0x1FFF by omega, show ¬a.toNat ≤ 0x3FFF by omega,
    show ¬0x8000 ≤ a.toNat by omega, if_false]

/-- The register an address in the PPU window names, as an address of the first mirror (R54). -/
theorem ppuIndex_mirror (a : Addr) : ppuIndex (0x2000 + BitVec.ofNat 16 (a.toNat % 8)) = ppuIndex a := by
  apply BitVec.eq_of_toNat_eq
  rw [ppuIndex_toNat, ppuIndex_toNat, BitVec.toNat_add, BitVec.toNat_ofNat]
  simp
  omega

/-! ### The PPU's registers -/

variable {s} {i : BitVec 3} (u : Ppu) (v : Byte)

theorem ppuRegRead_status (h : i.toNat = 2) :
    ppuRegRead i s = ((ppuReadStatus s.ppu).1, s.setPpu (ppuReadStatus s.ppu).2) := by
  simp only [ppuRegRead, h]

theorem ppuRegRead_data (h : i.toNat = 7) :
    ppuRegRead i s = ((ppuReadData s.ppu).1, s.setPpu (ppuReadData s.ppu).2) := by
  simp only [ppuRegRead, h]

theorem ppuRegRead_free (h2 : i.toNat ≠ 2) (h7 : i.toNat ≠ 7) :
    ppuRegRead i s = (Config.ppuWriteOnlyRead s.freeReads i, s.setFreeReads (s.freeReads + 1)) := by
  unfold ppuRegRead
  split
  · exact absurd ‹_› h2
  · exact absurd ‹_› h7
  · rfl

theorem ppuRegWrite_addr (h : i.toNat = 6) : ppuRegWrite i v u = ppuWriteAddr v u := by
  simp only [ppuRegWrite, h]

theorem ppuRegWrite_data (h : i.toNat = 7) : ppuRegWrite i v u = ppuWriteData v u := by
  simp only [ppuRegWrite, h]

theorem and_0xE0_toNat (v : Byte) : (v &&& 0xE0).toNat = v.toNat / 32 * 32 := by
  revert v
  decide

theorem and_0x1F_toNat (v : Byte) : (v &&& 0x1F).toNat = v.toNat % 32 := by
  rw [BitVec.toNat_and]
  exact Nat.and_two_pow_sub_one_eq_mod _ 5

theorem and_0x7F_toNat (v : Byte) : (v &&& 0x7F).toNat = v.toNat % 128 := by
  rw [BitVec.toNat_and]
  exact Nat.and_two_pow_sub_one_eq_mod _ 7

/-- The top three bits of one byte and the low five of another do not meet (R66). -/
theorem ppuReadStatus_toNat : (ppuReadStatus u).1.toNat = u.status.toNat / 32 * 32 + u.dataBuffer.toNat % 32 := by
  have hdisjoint : u.status &&& 0xE0 &&& (u.dataBuffer &&& 0x1F) = 0 := by
    rw [BitVec.and_assoc, ← BitVec.and_assoc 0xE0, BitVec.and_comm 0xE0, BitVec.and_assoc]
    exact (congrArg (u.status &&& ·) BitVec.and_zero).trans BitVec.and_zero
  have hstatus := u.status.isLt
  rw [ppuReadStatus, ← BitVec.add_eq_or_of_and_eq_zero _ _ hdisjoint, BitVec.toNat_add, and_0xE0_toNat,
    and_0x1F_toNat]
  omega

theorem ppuIncrement_toNat : (ppuIncrement u).toNat = if u.ctrl.toNat / 4 % 2 = 1 then 32 else 1 := by
  have hbit : u.ctrl.getLsbD 2 = decide (u.ctrl.toNat / 4 % 2 = 1) := Nat.testBit_eq_decide_div_mod_eq
  rw [ppuIncrement, hbit]
  by_cases h : u.ctrl.toNat / 4 % 2 = 1 <;> simp [h]

theorem vramAddr_step :
    u.vramAddr + ppuIncrement u =
      BitVec.ofNat 16 ((u.vramAddr.toNat + if u.ctrl.toNat / 4 % 2 = 1 then 32 else 1) % 65536) := by
  apply BitVec.eq_of_toNat_eq
  rw [BitVec.toNat_add, ppuIncrement_toNat, BitVec.toNat_ofNat]
  omega

/-- PPUADDR (R68): which half is written, and the latch. -/
theorem ppuWriteAddr_eq :
    ppuWriteAddr v u = { u with
      vramAddr := BitVec.ofNat 16
        (if u.addrLatch then u.vramAddr.toNat / 256 * 256 + v.toNat else 256 * v.toNat + u.vramAddr.toNat % 256)
      addrLatch := !u.addrLatch } := by
  have hword (h l : Byte) : word h l = BitVec.ofNat 16 (256 * h.toNat + l.toNat) := by
    rw [← word_toNat, BitVec.ofNat_toNat, BitVec.setWidth_eq]
  cases h : u.addrLatch with
  | false => simp [ppuWriteAddr, h, hword, loByte_toNat]
  | true => simp [ppuWriteAddr, h, hword, hiByte_toNat, Nat.mul_comm]

end Sys2Proof.Machine
end

section
/-! SUPPORT. The family of 20_memory.md (O24 to O30). -/

namespace Sys2Proof.Claims

open Sys2Proof.Machine

/-- Settles O24: one case for each region. -/
theorem busFollowsTheAddressMap : Obligations.BusFollowsTheAddressMap := by
  intro a s v
  refine ⟨fun h => ?ram, fun h h' => ?ppu, fun h h' => ?low, fun h => ?prg⟩
  case ram =>
    rw [rd_ramRegion s h, wr_ramRegion s h, ramIndex_eq]
    exact ⟨rfl, rfl⟩
  case ppu =>
    have hmirror : (0x2000 + BitVec.ofNat 16 (a.toNat % 8) : Addr).toNat = 0x2000 + a.toNat % 8 := by
      rw [BitVec.toNat_add, BitVec.toNat_ofNat]
      simp
      omega
    rw [rd_ppuRegion s h h', wr_ppuRegion s h h', rd_ppuRegion s (by omega) (by omega),
      wr_ppuRegion s (by omega) (by omega), ppuIndex_mirror]
    exact ⟨rfl, rfl⟩
  case low => exact ⟨by rw [rd_cartLowRegion s h h']; rfl, wr_cartRegion s h v⟩
  case prg => exact ⟨rd_prgRegion s h, wr_cartRegion s (by omega) v⟩

/-- Settles O25: both mirrors have one RAM index, and other addresses have another. -/
theorem ramMirrorsNameOneByte : Obligations.RamMirrorsNameOneByte := by
  intro s a b v hwf ha hb
  rw [wr_ramRegion s ha, rd_ramRegion _ hb, rd_ramRegion s hb, ramIndex_eq, ramIndex_eq]
  refine ⟨fun h => ?_, fun h => Memory.read_write_ne (Ne.symm h) _ v⟩
  rw [h]
  exact Memory.read_write_same hwf _ v

/-- Settles O26: the register's read as a number, and the second read's vblank bit. -/
theorem ppuStatusReadClearsVblankAndLatch : Obligations.PpuStatusReadClearsVblankAndLatch := by
  intro a s h h' hindex
  have hread (r : State) : rd a r = ((ppuReadStatus r.ppu).1, r.setPpu (ppuReadStatus r.ppu).2) := by
    rw [rd_ppuRegion r h h', ppuRegRead_status (by rw [ppuIndex_toNat, hindex])]
  have hstatus : (ppuReadStatus s.ppu).2.status.toNat = s.ppu.status.toNat % 128 := and_0x7F_toNat _
  simp only [hread]
  refine ⟨ppuReadStatus_toNat _, hstatus, rfl, ?_⟩
  rw [ppuReadStatus_toNat, State.setPpu_ppu, hstatus]
  omega

theorem rd_ppuStatus (s : State) : (rd 0x2002 s).2 = s.setPpu (ppuReadStatus s.ppu).2 := by
  rw [rd_ppuRegion s (by decide) (by decide), ppuRegRead_status (by decide)]

theorem wr_ppuAddr {a : Addr} (h : 0x2000 ≤ a.toNat) (h' : a.toNat ≤ 0x3FFF) (hindex : a.toNat % 8 = 6) (v : Byte)
    (s : State) : wr a v s = s.setPpu (ppuWriteAddr v s.ppu) := by
  rw [wr_ppuRegion s h h', ppuRegWrite_addr _ _ (by rw [ppuIndex_toNat, hindex])]

/-- Settles O27: the write's rule, used once for each write of the sequence. -/
theorem ppuAddrTakesHighThenLow : Obligations.PpuAddrTakesHighThenLow := by
  intro s h l h2
  have hwrite := wr_ppuAddr (a := 0x2006) (by decide) (by decide) (by decide)
  have hh := h.isLt
  have hl := l.isLt
  have hh2 := h2.isLt
  simp only [hwrite, rd_ppuStatus, ppuWriteAddr_eq, ppuReadStatus, State.setPpu_ppu, Bool.not_false, Bool.not_true,
    if_true, if_false, Bool.false_eq_true, BitVec.toNat_ofNat]
  refine ⟨trivial, by omega, trivial, by omega, trivial, by omega, trivial, by omega, trivial, ?_⟩
  intro a r v ha ha' hindex
  rw [wr_ppuAddr ha ha' hindex, ppuWriteAddr_eq]
  rfl

/-- Settles O28: the register's two rules, and the read's rule used twice. -/
theorem ppuDataIsBufferedByOneRead : Obligations.PpuDataIsBufferedByOneRead := by
  intro a s v h h' hindex
  have hread (r : State) : rd a r = ((ppuReadData r.ppu).1, r.setPpu (ppuReadData r.ppu).2) := by
    rw [rd_ppuRegion r h h', ppuRegRead_data (by rw [ppuIndex_toNat, hindex])]
  have hwrite : wr a v s = s.setPpu (ppuWriteData v s.ppu) := by
    rw [wr_ppuRegion s h h', ppuRegWrite_data _ _ (by rw [ppuIndex_toNat, hindex])]
  simp only [hread, hwrite, ppuReadData, ppuWriteData, vramAddr_step, State.setPpu_ppu]
  refine ⟨trivial, rfl, fun hlow => ?_, rfl⟩
  refine if_pos ?_
  rwa [BitVec.toNat_ofNat, Nat.mod_mod]

/-- Settles O29: one case for each index. -/
theorem otherPpuRegistersLatchOrIgnore : Obligations.OtherPpuRegistersLatchOrIgnore := by
  intro a s v h h'
  rw [wr_ppuRegion s h h', rd_ppuRegion s h h', ← ppuIndex_toNat]
  refine ⟨fun hi => ?_, fun hi => ?_, fun hi => ?_, fun hi => ?_, fun h2 h7 => ?_⟩
  · simp only [ppuRegWrite, hi]
    rfl
  · simp only [ppuRegWrite, hi]
    rfl
  · simp only [ppuRegWrite, hi]
    rfl
  · obtain hi | hi | hi := hi
    all_goals
      simp only [ppuRegWrite, hi]
      rfl
  · rw [ppuRegRead_free h2 h7]
    rfl

/-- Settles O30: by induction on the lists, whose first indices and bytes agree. -/
theorem canonicalMemoriesWithEqualBytesAreEqual : Obligations.CanonicalMemoriesWithEqualBytesAreEqual :=
  fun _ _ hm hn h => Memory.eq_of_read_eq hm hn h

end Sys2Proof.Claims
end

section
/-! SUPPORT. The addressing engines as arithmetic (R125 to R140; O35 to O37). -/

namespace Sys2Proof.Machine

open Sys2Proof.Claims

theorem ofNat_word (hi lo : Byte) : BitVec.ofNat 16 (256 * hi.toNat + lo.toNat) = word hi lo := by
  rw [← word_toNat, BitVec.ofNat_toNat, BitVec.setWidth_eq]

theorem zeroPage_toNat (b : Byte) : (zeroPage b).toNat = b.toNat := by
  have hb := b.isLt
  rw [zeroPage, BitVec.toNat_setWidth]
  omega

theorem ofNat_zeroPage (b : Byte) : BitVec.ofNat 16 b.toNat = zeroPage b := by
  rw [← zeroPage_toNat, BitVec.ofNat_toNat, BitVec.setWidth_eq]

theorem ofNat_zeroPage_add (b x : Byte) : BitVec.ofNat 16 ((b.toNat + x.toNat) % 256) = zeroPage (b + x) := by
  rw [← ofNat_zeroPage, BitVec.toNat_add]

theorem index_toNat (w : Addr) (x : Byte) : (w + x.setWidth 16).toNat = (w.toNat + x.toNat) % 65536 := by
  have hx := x.isLt
  rw [BitVec.toNat_add, BitVec.toNat_setWidth]
  omega

theorem pageCrossed_eq (a b : Addr) : pageCrossed a b = decide (b.toNat / 256 ≠ a.toNat / 256) := by
  rw [pageCrossed, Bool.eq_iff_iff, bne_iff_ne, decide_eq_true_iff, ne_eq, ne_eq, eq_comm, BitVec.toNat_eq,
    hiByte_toNat, hiByte_toNat]

/-! ### Pointers in a page (R139) -/

theorem nextInPage_eq_word (a : Addr) : nextInPage a = word (hiByte a) (loByte (a + 1)) := by
  apply BitVec.eq_of_getLsbD_eq
  intro i hi
  simp only [nextInPage, word, hiByte, loByte, BitVec.getLsbD_or, BitVec.getLsbD_and, BitVec.getLsbD_append,
    BitVec.getLsbD_extractLsb']
  interval_cases i <;> simp

theorem nextInPage_toNat (a : Addr) : (nextInPage a).toNat = a.toNat / 256 * 256 + (a.toNat + 1) % 256 := by
  rw [nextInPage_eq_word, word_toNat, hiByte_toNat, loByte_toNat, BitVec.toNat_add]
  simp
  omega

theorem nextInPage_zeroPage (b : Byte) : nextInPage (zeroPage b) = zeroPage (b + 1) := by
  have hb := b.isLt
  apply BitVec.eq_of_toNat_eq
  rw [nextInPage_toNat, zeroPage_toNat, zeroPage_toNat, BitVec.toNat_add]
  simp
  omega

theorem rd_zeroPage (b : Byte) (s : State) : rd (zeroPage b) s = (s.ram.read b.toNat, s) := by
  have hb := b.isLt
  rw [rd_ramRegion s (by rw [zeroPage_toNat]; omega), ramIndex_eq, zeroPage_toNat, Nat.mod_eq_of_lt (by omega)]

/-- A pointer in page 0 is read from RAM, both bytes in page 0. -/
theorem readWordBug_zeroPage (b : Byte) (s : State) :
    readWordBug (zeroPage b) s = (word (s.ram.read (b + 1).toNat) (s.ram.read b.toNat), s) := by
  simp only [readWordBug, nextInPage_zeroPage, rd_zeroPage]

/-- The state the engine leaves: only the pointer of Indirect can lie outside RAM (R135). -/
theorem locate_state_of_ne_ind {o : Operand} (h : o.mode ≠ .ind) (s : State) : (locate o s).state = s := by
  cases o with
  | acc | imm | zp | zpx | zpy | abs | abx | aby => rfl
  | ind => exact absurd rfl h
  | izx | izy => simp only [locate, readWordBug_zeroPage]

theorem locate_not_crossed {o : Operand} (h : o.mode ∉ [Mode.abx, Mode.aby, Mode.izy]) (s : State) :
    (locate o s).crossed = false := by
  cases o with
  | acc | imm | zp | zpx | zpy | abs | ind | izx => rfl
  | abx | aby | izy => exact absurd (by simp [Operand.mode]) h

theorem locate_mem {o : Operand} (h : o.mode ∉ [Mode.acc, Mode.imm]) (s : State) :
    ∃ ea, (locate o s).loc = .mem ea := by
  cases o with
  | acc | imm => exact absurd (by simp [Operand.mode]) h
  | zp | zpx | zpy | abs | abx | aby | ind | izx | izy => exact ⟨_, rfl⟩

end Sys2Proof.Machine

namespace Sys2Proof.Claims

open Sys2Proof.Machine

/-- Settles O35: the sums of the engines as numbers. -/
theorem directAndIndexedAddressing : Obligations.DirectAndIndexedAddressing := by
  intro b w s
  simp only [GivesAddress, ofNat_zeroPage_add, ← index_toNat, ← pageCrossed_eq,
    BitVec.ofNat_toNat, BitVec.setWidth_eq]
  exact ⟨rfl, rfl, rfl, rfl, rfl, rfl⟩

/-- Settles O36: both bytes of a pointer in page 0 come from RAM; Indirect reads wherever it points. -/
theorem pointerAddressingWrapsInThePage : Obligations.PointerAddressingWrapsInThePage := by
  intro b w s
  refine ⟨?izx, ?izy, ?ind⟩
  case izx =>
    have hlo : (b + s.x).toNat = (b.toNat + s.x.toNat) % 256 := BitVec.toNat_add b s.x
    have hhi : (b + s.x + 1).toNat = (b.toNat + s.x.toNat + 1) % 256 := by
      rw [BitVec.toNat_add, hlo]
      simp
    simp only [GivesAddress, ← hlo, ← hhi, ofNat_word, locate, readWordBug_zeroPage]
  case izy =>
    have hhi : (b + 1).toNat = (b.toNat + 1) % 256 := BitVec.toNat_add b 1
    simp only [GivesAddress, ← hhi, ← word_toNat, ← index_toNat, ← pageCrossed_eq, locate,
      readWordBug_zeroPage, BitVec.ofNat_toNat, BitVec.setWidth_eq]
  case ind =>
    have hnext : BitVec.ofNat 16 (w.toNat / 256 * 256 + (w.toNat + 1) % 256) = nextInPage w := by
      rw [← nextInPage_toNat, BitVec.ofNat_toNat, BitVec.setWidth_eq]
    rw [hnext]
    rfl

/-- Settles O37: the engines one by one. -/
theorem enginesOnlyReadAndOnlyIndexedFormsCross : Obligations.EnginesOnlyReadAndOnlyIndexedFormsCross :=
  fun o s => ⟨locate_frame s o, fun h => locate_not_crossed h s, fun h => locate_mem h s,
    fun h => locate_state_of_ne_ind h s⟩

end Sys2Proof.Claims
end

section
/-! SUPPORT. From what a body does to what its instruction does: the instruction cycle around bodies that change registers,
read the operand, or write it (R122 to R124, R260). -/

namespace Sys2Proof.Machine

open Sys2Proof.Claims

variable {i : Instr} {o : Operand} {s : State} {dests : List Reg} {Q : State → Prop}

/-- The registers a body can read are those of `s`. -/
structure SameRegisters (s u : State) : Prop where
  a : u.a = s.a
  x : u.x = s.x
  y : u.y = s.y
  sp : u.sp = s.sp
  p : u.p = s.p

theorem SameRegisters.advance {u : State} (h : SameRegisters s u) (n c : Nat) : SameRegisters s (advance n c u) :=
  ⟨h.a, h.x, h.y, h.sp, h.p⟩

theorem sameRegisters_locate (o : Operand) (s : State) : SameRegisters s (locate o s).state :=
  ⟨locate_a s o, locate_x s o, locate_y s o, locate_sp s o, locate_p s o⟩

theorem sameRegisters_operandRead (o : Operand) (s : State) : SameRegisters s (operandRead o s).2 := by
  constructor <;> simp [operandRead]

theorem SameRegisters.wr {u : State} (h : SameRegisters s u) (ea : Addr) (v : Byte) :
    SameRegisters s (wr ea v u) := by
  constructor <;> simp [h.a, h.x, h.y, h.sp, h.p]

theorem SameRegisters.flag {u : State} (h : SameRegisters s u) (f : Flag) : u.flag f = s.flag f :=
  congrArg (getFlag f) h.p

theorem SameRegisters.carry {u : State} (h : SameRegisters s u) : carry u = carry s := by
  rw [carry_eq, carry_eq, h.flag]

/-! ### The cycle -/

/-- The cycle of an instruction whose body, run on `v` past the instruction, changes registers only. -/
theorem runs_of_cycle {v u : State} {n c : Nat} (hexec : exec i s = .next (retire u))
    (hu : RegistersOnly dests (advance n c v) u) (hpc : v.pc = s.pc) (htotal : v.totalCycles = s.totalCycles)
    (hQ : Q (retire u)) : Runs i s (s.pc + BitVec.ofNat 16 n) c Q := by
  refine ⟨retire u, hexec, ?_, ?_, ?_, hQ⟩
  · rw [retire_pc, hu.1, ← hpc]
    rfl
  · rw [retire_totalCycles, hu.1, ← htotal]
    rfl
  · rw [retire_cyclesRemaining, hu.1]
    rfl

theorem runs_implied {n c : Nat} {body : State → State} (hexec : exec i s = runImplied n c body s)
    (hbody : RegistersOnly dests (advance n c s) (body (advance n c s)))
    (hQ : CpuOnly dests s (retire (body (advance n c s))) → Q (retire (body (advance n c s)))) :
    Runs i s (s.pc + BitVec.ofNat 16 n) c Q :=
  runs_of_cycle hexec hbody rfl rfl (hQ hbody.cycle)

/-- An instruction of one byte and two cycles that touches registers only. -/
theorem runsInside_implied {body : State → State} (hexec : exec i s = runImplied 1 2 body s)
    (hbody : RegistersOnly dests (advance 1 2 s) (body (advance 1 2 s)))
    (hQ : Keeps s (retire (body (advance 1 2 s))) dests → Q (retire (body (advance 1 2 s)))) : RunsInside i s Q :=
  runs_implied hexec hbody fun h => ⟨h.keepsMemory, h.ppu, hQ h.keeps⟩

/-! ### Instructions that read their operand (R124) -/

theorem readsOperand {use : Byte → State → State}
    (hexec : exec i s = runOperand (readCost o) o (withOperand use) s)
    (huse : ∀ u, RegistersOnly dests u (use (operandOf o s) u))
    (hQ : ∀ u, SameRegisters s u → Q (retire (use (operandOf o s) u))) : ReadsOperand i o s dests Q := by
  have hcycle := fun n c => (huse (advance n c (operandRead o s).2)).cycle
  refine runs_of_cycle (v := (operandRead o s).2) (hexec.trans (runOperand_withOperand s _ o use)) (huse _)
    (by simp [operandRead]) (by simp [operandRead]) ⟨?_, fun b => ?_, ?_, ?_⟩
  · exact Keeps.trans (Keeps.weaken (keeps_operandRead o s) _) (hcycle _ _).keeps
  · exact ((hcycle _ _).keepsMemory b).trans (keepsMemory_operandRead o s b)
  · exact (hcycle _ _).ppu
  · exact hQ _ ((sameRegisters_operandRead o s).advance _ _)

/-! ### Instructions that write their operand -/

theorem operand_mode_mem {ms : List Mode} (hforms : i.forms = some (o, ms)) (hwf : i.wf = true) : o.mode ∈ ms := by
  simpa [Instr.wf, hforms] using hwf

/-- A well-formed instruction none of whose forms is Accumulator or Immediate has an address. -/
theorem locate_mem_of_wf {ms : List Mode} (hforms : i.forms = some (o, ms)) (hms : .acc ∉ ms ∧ .imm ∉ ms)
    (hwf : i.wf = true) (s : State) : ∃ ea, (locate o s).loc = .mem ea := by
  have hmode := operand_mode_mem hforms hwf
  refine locate_mem (fun hbad => ?_) s
  simp only [List.mem_cons, List.not_mem_nil, or_false] at hbad
  obtain hbad | hbad := hbad
  · exact hms.1 (hbad ▸ hmode)
  · exact hms.2 (hbad ▸ hmode)

theorem wr_byteAt_of_sameCell {b ea : Addr} (v : Byte) (hwf : s.ram.wf = true) (h : SameCell b ea) :
    (wr ea v s).byteAt b = some v := by
  obtain ⟨hb, hea, hindex⟩ := h
  rw [wr_ramRegion s hea, State.byteAt, if_pos hb, ramIndex_eq, ramIndex_eq, hindex]
  exact congrArg some (Memory.read_write_same hwf _ v)

/-- What follows the write inside the CPU does not undo it; what came before it did not touch memory. -/
theorem writesOperand_of_cpuOnly {base t : State} {ea : Addr} {v : Byte} (hmemory : KeepsMemory s base)
    (hram : base.ram = s.ram) (hloc : (locate o s).loc = .mem ea) (h : CpuOnly dests (wr ea v base) t) :
    WritesOperand o s t base v := by
  intro ea' hloc'
  obtain rfl : ea' = ea := Loc.mem.inj (hloc'.symm.trans hloc)
  refine ⟨⟨fun b hb => ?_, fun hwf b hb => ?_⟩, h.ppu⟩
  · rw [h.keepsMemory, wr_byteAt_of_not_sameCell base v hb, hmemory]
  · rw [h.keepsMemory, wr_byteAt_of_sameCell v (hram.symm ▸ hwf) hb]

theorem runsOn_storing {c : Cost} {v : State → Byte} {r : Byte} (hexec : exec i s = runOperand c o (storing v) s)
    (hloc : ∃ ea, (locate o s).loc = .mem ea) (hv : ∀ u, SameRegisters s u → v u = r) :
    RunsOn i c o s fun t => Keeps s t [] ∧ FlagsAre s.p t.p [] ∧ WritesOperand o s t (locate o s).state r := by
  obtain ⟨ea, hloc⟩ := hloc
  have hcycle := fun n c => (RegistersOnly.refl [] (advance n c (wr ea r (locate o s).state))).cycle
  have hnext : exec i s = .next (retire (advance (operandSize o) (c.charged (locate o s).crossed)
      (wr ea r (locate o s).state))) := by
    rw [hexec, runOperand_storing, hv _ ((sameRegisters_locate o s).advance _ _), hloc, writeLoc_advance, writeLoc]
  refine runs_of_cycle (dests := []) hnext (RegistersOnly.refl _ _) (by simp) (by simp)
    ⟨?_, flagsAre_of_eq (by simp), ?_⟩
  · exact Keeps.trans (keeps_locate o s) (Keeps.trans (keeps_wr ea r _) (hcycle _ _).keeps)
  · exact writesOperand_of_cpuOnly (locate_byteAt s o) (locate_ram s o) hloc (hcycle _ _)

theorem runsOn_modifying {c : Cost} {f : Byte → State → Byte} {g : Byte → Byte → State → State} {r : Byte}
    (hexec : exec i s = runOperand c o (modifying f g) s) (hloc : ∃ ea, (locate o s).loc = .mem ea)
    (hf : ∀ u, SameRegisters s u → f (operandOf o s) u = r)
    (hg : ∀ u, RegistersOnly dests u (g (operandOf o s) r u))
    (hQ : ∀ u t, SameRegisters s u → t = retire (g (operandOf o s) r u) → Keeps s t dests →
      WritesOperand o s t (operandRead o s).2 r → Q t) : RunsOn i c o s Q := by
  obtain ⟨ea, hloc⟩ := hloc
  have hnext : exec i s = .next (retire (g (operandOf o s) r (advance (operandSize o)
      (c.charged (locate o s).crossed) (wr ea r (operandRead o s).2)))) := by
    rw [← hf _ ((sameRegisters_operandRead o s).advance (operandSize o) (c.charged (locate o s).crossed)), hexec,
      runOperand_modifying]
    simp only [operandOf, operandRead, hloc, writeLoc, wr_advance]
  have hcycle := (hg (advance (operandSize o) (c.charged (locate o s).crossed) (wr ea r (operandRead o s).2))).cycle
  refine runs_of_cycle hnext (hg _) (by simp [operandRead]) (by simp [operandRead])
    (hQ _ _ (((sameRegisters_operandRead o s).wr ea r).advance _ _) rfl ?_ ?_)
  · exact Keeps.trans (Keeps.weaken (Keeps.trans (keeps_operandRead o s) (keeps_wr ea r _)) _) hcycle.keeps
  · exact writesOperand_of_cpuOnly (keepsMemory_operandRead o s) (by simp [operandRead]) hloc hcycle

/-- A shift or rotate in memory, then the last part on a state whose C is the bit shifted out. -/
theorem runsOn_shifting {c : Cost} {f : Byte → Bool → Byte × Bool} {andThen : Byte → State → State}
    (hexec : exec i s = runOperand c o (shifting f andThen) s) (hloc : ∃ ea, (locate o s).loc = .mem ea)
    (hthen : ∀ r u, RegistersOnly dests u (andThen r u))
    (hQ : ∀ u t, SameRegisters s u →
      t = retire (andThen (f (operandOf o s) (s.flag .c)).1 (u.setFlag .c (f (operandOf o s) (s.flag .c)).2)) →
      Keeps s t dests → WritesOperand o s t (operandRead o s).2 (f (operandOf o s) (s.flag .c)).1 → Q t) :
    RunsOn i c o s Q := by
  refine runsOn_modifying (dests := dests) hexec hloc (fun u hu => by rw [hu.flag]) (fun u => ?_) fun u t hu ht => ?_
  · exact ((RegistersOnly.refl _ u).setFlag .c _).update (hthen _ _).1 (hthen _ _).2
  · rw [hu.flag] at ht
    exact hQ u t hu ht

/-- A step of a byte in memory, then the last part. -/
theorem runsOn_stepping {c : Cost} {f : Byte → Byte} {andThen : Byte → State → State}
    (hexec : exec i s = runOperand c o (stepping f andThen) s) (hloc : ∃ ea, (locate o s).loc = .mem ea)
    (hthen : ∀ r u, RegistersOnly dests u (andThen r u))
    (hQ : ∀ u t, SameRegisters s u → t = retire (andThen (f (operandOf o s)) u) → Keeps s t dests →
      WritesOperand o s t (operandRead o s).2 (f (operandOf o s)) → Q t) : RunsOn i c o s Q :=
  runsOn_modifying hexec hloc (fun _ _ => rfl) (fun u => hthen _ u) hQ

end Sys2Proof.Machine
end

section
/-! SUPPORT. The families of 41, 42 and 43: loads, stores, transfers, the stack, logic, shifts and arithmetic (O38 to
O48). -/

namespace Sys2Proof.Claims

open Sys2Proof.Machine

/-! ### Loads, stores, transfers (41_load_store_transfer_stack.md) -/

/-- Settles O38: each body loads the operand that was read. -/
theorem loadsPutTheOperandInTheRegister : Obligations.LoadsPutTheOperandInTheRegister :=
  fun _ _ =>
    ⟨readsOperand rfl (registersOnly_loadA _) fun u hu => ⟨rfl, hu.p ▸ flagsAre_loadA _ u⟩,
      readsOperand rfl (registersOnly_loadX _) fun u hu => ⟨rfl, hu.p ▸ flagsAre_loadX _ u⟩,
      readsOperand rfl (registersOnly_loadY _) fun u hu => ⟨rfl, hu.p ▸ flagsAre_loadY _ u⟩,
      readsOperand rfl (registersOnly_loadAX _) fun u hu => ⟨rfl, rfl, hu.p ▸ flagsAre_loadAX _ u⟩⟩

/-- Settles O39: each body stores a value of the registers, which the engine leaves as they were. -/
theorem storesWriteTheRegisterAtTheAddress : Obligations.StoresWriteTheRegisterAtTheAddress :=
  fun _ s =>
    ⟨fun hwf => runsOn_storing rfl (locate_mem_of_wf rfl (by decide) hwf s) fun _ hu => hu.a,
      fun hwf => runsOn_storing rfl (locate_mem_of_wf rfl (by decide) hwf s) fun _ hu => hu.x,
      fun hwf => runsOn_storing rfl (locate_mem_of_wf rfl (by decide) hwf s) fun _ hu => hu.y,
      fun hwf => runsOn_storing rfl (locate_mem_of_wf rfl (by decide) hwf s) fun _ hu => by rw [hu.a, hu.x]⟩

/-- Settles O40: each body loads another register; TXS writes SP alone. -/
theorem transfersCopyARegister : Obligations.TransfersCopyARegister :=
  fun s =>
    ⟨runsInside_implied rfl (registersOnly_loadX _ _) fun hk => ⟨rfl, hk, flagsAre_loadX _ s⟩,
      runsInside_implied rfl (registersOnly_loadY _ _) fun hk => ⟨rfl, hk, flagsAre_loadY _ s⟩,
      runsInside_implied rfl (registersOnly_loadA _ _) fun hk => ⟨rfl, hk, flagsAre_loadA _ s⟩,
      runsInside_implied rfl (registersOnly_loadA _ _) fun hk => ⟨rfl, hk, flagsAre_loadA _ s⟩,
      runsInside_implied rfl (registersOnly_loadX _ _) fun hk => ⟨rfl, hk, flagsAre_loadX _ s⟩,
      runsInside_implied rfl ((RegistersOnly.refl [.sp] _).setSP (by decide) _) fun hk =>
        ⟨rfl, hk, flagsAre_refl s.p⟩⟩

/-! ### The stack instructions -/

/-- A push instruction (R172, R173): the byte goes to the stack slot, and SP drops. -/
theorem push_runs {i : Instr} {s : State} {v : Byte}
    (hexec : exec i s = .next (retire (push8 v (advance 1 3 s)))) :
    Runs i s (s.pc + 1) 3 fun t => t.sp = s.sp - 1 ∧ StoresByte s t (stackAddr s.sp) v ∧
      Keeps s t [.sp] ∧ FlagsAre s.p t.p [] ∧ t.ppu = s.ppu := by
  refine ⟨_, hexec, by simp, by simp, by simp, by simp, ⟨fun b hb => ?_, fun hwf b hb => ?_⟩, ?_,
    flagsAre_of_eq (by simp), by simp⟩
  · rw [retire_byteAt]
    exact push8_byteAt_of_not_sameCell (advance 1 3 s) v hb
  · rw [retire_byteAt]
    exact wr_byteAt_of_sameCell (s := advance 1 3 s) v hwf hb
  · exact Keeps.trans (cpuOnly_advance _ 1 3 s).keeps (Keeps.trans (keeps_push8 v _) (cpuOnly_retire _ _).keeps)

/-- Settles O41: PHP pushes P with B and U set. -/
theorem pushesStoreAtTheStackSlot : Obligations.PushesStoreAtTheStackSlot :=
  fun s => ⟨push_runs rfl, pushedWithB s.p, flagsAre_pushedWithB s.p, push_runs rfl⟩

/-- A pull instruction (R174, R175): its body works on the byte above SP, with SP raised. -/
theorem pull_runs {i : Instr} {s : State} {dests : List Reg} {use : Byte → State → State} {Q : State → Prop}
    (hexec : exec i s = .next (retire (use (pop8 (advance 1 4 s)).1 (pop8 (advance 1 4 s)).2)))
    (huse : ∀ u, RegistersOnly dests u (use (stackByte s 1) u)) (hsp : .sp ∈ dests)
    (hQ : CpuOnly dests s (retire (use (stackByte s 1) ((advance 1 4 s).setSP (s.sp + 1)))) →
      Q (retire (use (stackByte s 1) ((advance 1 4 s).setSP (s.sp + 1))))) : Runs i s (s.pc + 1) 4 Q := by
  rw [pop8_eq, ramIndex_stackAddr] at hexec
  have hbody : RegistersOnly dests (advance 1 4 s) (use (stackByte s 1) ((advance 1 4 s).setSP (s.sp + 1))) :=
    ((RegistersOnly.refl _ _).setSP hsp _).update (huse _).1 (huse _).2
  exact runs_of_cycle hexec hbody rfl rfl (hQ hbody.cycle)

/-- Settles O42: PLA loads the byte into A, PLP into P. -/
theorem pullsReadTheStackSlot : Obligations.PullsReadTheStackSlot := by
  intro s
  constructor
  · exact pull_runs (dests := [.a, .sp]) (use := loadA) rfl (fun u => (RegistersOnly.refl _ u).loadA (by decide) _)
      (by decide) fun h => ⟨rfl, rfl, flagsAre_loadA _ s, h.keeps, h.keepsMemory, h.ppu⟩
  · exact pull_runs (dests := [.sp]) (use := fun v u => u.setP (pulledP v)) rfl
      (fun u => (RegistersOnly.refl _ u).setP _) (by decide)
      fun h => ⟨flagsAre_pulledP _, rfl, h.keeps, h.keepsMemory, h.ppu⟩

/-! ### Logic and shifts (42_logic_shift.md) -/

/-- Settles O43: each body loads A with the combination. -/
theorem logicCombinesAWithTheOperand : Obligations.LogicCombinesAWithTheOperand := by
  intro o s
  refine ⟨readsOperand rfl (fun u => registersOnly_loadA _ u) fun u hu => ?_,
    readsOperand rfl (fun u => registersOnly_loadA _ u) fun u hu => ?_,
    readsOperand rfl (fun u => registersOnly_loadA _ u) fun u hu => ?_⟩
  all_goals
    rw [← hu.a, ← hu.p]
    exact ⟨rfl, flagsAre_loadA _ u⟩

/-- A shift or rotate of A, or of a byte of memory (R183 to R186). -/
theorem shift_runs {i : Instr} {f : Byte → Bool → Byte × Bool} {o : Operand} {s : State}
    (hexec : exec i s = runOperand (modifyCost o) o (shifting f State.setZN) s)
    (hforms : i.forms = some (o, shiftModes)) (hwf : i.wf = true) :
    let r := (f (operandOf o s) (s.flag .c)).1
    let c := (f (operandOf o s) (s.flag .c)).2
    RunsOn i (modifyCost o) o s fun t =>
      FlagsAre s.p t.p ((.c, c) :: zn r) ∧
      (o = .acc → t.a = r ∧ Keeps s t [.a] ∧ KeepsMemory s t ∧ t.ppu = s.ppu) ∧
      (o ≠ .acc → Keeps s t [] ∧ WritesOperand o s t (operandRead o s).2 r) := by
  intro r c
  have hflags (p : Byte) : FlagsAre p (putZN r (putFlag .c c p)) ((.c, c) :: zn r) :=
    FlagsAre.after_putFlag (flagsAre_putZN r _) fun _ => rfl
  by_cases hacc : o = .acc
  · subst hacc
    have hbody : RegistersOnly [.a] (advance 1 2 s) ((((advance 1 2 s).setA r).setFlag .c c).setZN r) :=
      (((RegistersOnly.refl _ _).setA (by decide) r).setFlag .c c).setZN r
    refine runs_of_cycle (n := 1) (c := 2) (v := s) hexec hbody rfl rfl ⟨hflags s.p, fun _ => ?_,
      fun h => absurd rfl h⟩
    exact ⟨rfl, hbody.cycle.keeps, hbody.cycle.keepsMemory, hbody.cycle.ppu⟩
  · have hmode := operand_mode_mem hforms hwf
    have hloc : ∃ ea, (locate o s).loc = .mem ea := by
      refine locate_mem ?_ s
      cases o with
      | acc => exact absurd rfl hacc
      | imm => exact absurd hmode (by simp [Operand.mode, shiftModes])
      | _ => simp [Operand.mode]
    refine runsOn_shifting hexec hloc registersOnly_setZN fun u t hu ht hkeeps hwrites => ?_
    rw [ht] at hkeeps hwrites ⊢
    exact ⟨hu.p ▸ hflags u.p, fun h => absurd h hacc, fun _ => ⟨hkeeps, hwrites⟩⟩

/-- Settles O44: one shift rule for the four primitives. -/
theorem shiftsWorkOnAOrMemory : Obligations.ShiftsWorkOnAOrMemory := by
  intro p hp
  simp only [List.mem_cons, List.not_mem_nil, or_false] at hp
  obtain rfl | rfl | rfl | rfl := hp
  all_goals exact fun _ _ => shift_runs rfl rfl

/-! ### Arithmetic (43_arith_compare_incdec.md) -/

theorem subtracts_of_sameRegisters {s u t : State} {m : Byte} (hu : SameRegisters s u) (h : Subtracts u t m) :
    Subtracts s t m := by
  rwa [Subtracts, hu.a, hu.p, hu.carry] at h

/-- Settles O45: SBC is ADC of the complement, and its duplicate has the same body. -/
theorem adcAndSbcAreBinaryArithmetic : Obligations.AdcAndSbcAreBinaryArithmetic := by
  intro o s
  refine ⟨readsOperand rfl (registersOnly_doAdc _) fun u hu => ?_,
    readsOperand rfl (fun u => registersOnly_doAdc _ u) fun u hu => subtracts_of_sameRegisters hu (subtracts_doSbc _ u),
    fun v => readsOperand rfl (fun u => registersOnly_doAdc _ u) fun u hu =>
      subtracts_of_sameRegisters hu (subtracts_doSbc v u)⟩
  rw [← hu.a, ← hu.p, ← hu.carry]
  exact ⟨doAdc_a_toNat _ u, flagsAre_doAdc _ u⟩

/-- Settles O46: the three compares have one body. -/
theorem comparesSetFlagsOnly : Obligations.ComparesSetFlagsOnly := by
  intro o s
  refine ⟨readsOperand rfl (fun u => registersOnly_doCmp _ _ u) fun u hu => ?_,
    readsOperand rfl (fun u => registersOnly_doCmp _ _ u) fun u hu => ?_,
    readsOperand rfl (fun u => registersOnly_doCmp _ _ u) fun u hu => ?_⟩
  · rw [Compares, ← hu.a, ← hu.p]
    exact flagsAre_doCmp _ _ u
  · rw [Compares, ← hu.x, ← hu.p]
    exact flagsAre_doCmp _ _ u
  · rw [Compares, ← hu.y, ← hu.p]
    exact flagsAre_doCmp _ _ u

/-- Settles O47: INC and DEC step the byte and set Z and N from it. -/
theorem incAndDecStepAMemoryByte : Obligations.IncAndDecStepAMemoryByte := by
  intro o s
  constructor
  all_goals
    intro hwf
    refine runsOn_stepping rfl (locate_mem_of_wf rfl (by decide) hwf s) registersOnly_setZN
      fun u t hu ht hkeeps hwrites => ⟨hkeeps, ?_, hwrites⟩
    rw [ht, ← hu.p]
    exact flagsAre_putZN _ u.p

/-- Settles O48: each body loads the register with its value one higher or lower. -/
theorem indexRegistersStep : Obligations.IndexRegistersStep := by
  intro s
  have hdec (v : Byte) : (v - 1).toNat = (v.toNat + 255) % 256 := by
    rw [BitVec.toNat_sub, Nat.add_comm]
    rfl
  exact ⟨runsInside_implied rfl (registersOnly_loadX _ _) fun hk => ⟨BitVec.toNat_add s.x 1, hk, flagsAre_loadX _ s⟩,
    runsInside_implied rfl (registersOnly_loadX _ _) fun hk => ⟨hdec s.x, hk, flagsAre_loadX _ s⟩,
    runsInside_implied rfl (registersOnly_loadY _ _) fun hk => ⟨BitVec.toNat_add s.y 1, hk, flagsAre_loadY _ s⟩,
    runsInside_implied rfl (registersOnly_loadY _ _) fun hk => ⟨hdec s.y, hk, flagsAre_loadY _ s⟩⟩

end Sys2Proof.Claims
end

section
/-! SUPPORT. The families of 44 and 45: control, flags, no-operations and the undocumented opcodes (O49 to O56). -/

namespace Sys2Proof.Claims

open Sys2Proof.Machine

/-! ### Instructions that do nothing -/

theorem idles_implied {i : Instr} {s : State} {n c : Nat} (hexec : exec i s = runImplied n c id s) : Idles i s n c :=
  runs_implied (dests := []) hexec (RegistersOnly.refl _ _) fun h => ⟨h.keeps, flagsAre_refl s.p, h.keepsMemory, h.ppu⟩

/-! ### Branches (R131, R220) -/

theorem branchTarget_eq (pc : Addr) (off : Byte) : branchTarget pc off = BitVec.ofInt 16 (pc.toNat + 2 + off.toInt) := by
  rw [BitVec.ofInt_add, BitVec.ofInt_add, branchTarget]
  simp [sext, BitVec.signExtend]

theorem branch_not_taken (off : Byte) (s : State) : branch false off s = runImplied 2 2 id s := rfl

theorem branch_taken (off : Byte) (s : State) :
    branch true off s = .next (retire (((advance 2 2 s).setCyclesRemaining
      (2 + if pageCrossed (branchRef s.launch.branchPageRef s.pc) (branchTarget s.pc off) then 2 else 1)).setPC
      (branchTarget s.pc off))) := rfl

/-- A branch on whether a flag has a value. -/
theorem branch_runs {i : Instr} {off : Byte} {s : State} {taken : Bool} {f : Flag} {v : Bool}
    (hexec : exec i s = branch taken off s) (htaken : taken = decide (s.flag f = v)) :
    let target := BitVec.ofInt 16 (s.pc.toNat + 2 + off.toInt)
    let ref := if s.launch.branchPageRef = .opcodePc then s.pc.toNat else (s.pc.toNat + 2) % 65536
    (s.flag f ≠ v → Runs i s (s.pc + 2) 2 fun t =>
      Keeps s t [] ∧ FlagsAre s.p t.p [] ∧ KeepsMemory s t ∧ t.ppu = s.ppu) ∧
    (s.flag f = v → Runs i s target (if target.toNat / 256 = ref / 256 then 3 else 4) fun t =>
      Keeps s t [] ∧ FlagsAre s.p t.p [] ∧ KeepsMemory s t ∧ t.ppu = s.ppu) := by
  intro target ref
  refine ⟨fun hf => ?_, fun hf => ?_⟩
  · rw [htaken, decide_eq_false hf] at hexec
    exact idles_implied (hexec.trans (branch_not_taken off s))
  · rw [htaken, decide_eq_true hf] at hexec
    have href : (branchRef s.launch.branchPageRef s.pc).toNat = ref := by
      cases hr : s.launch.branchPageRef with
      | opcodePc => simp [branchRef, ref, hr]
      | nextPc => simp [branchRef, ref, hr]
    have hcost : (if pageCrossed (branchRef s.launch.branchPageRef s.pc) (branchTarget s.pc off) then 4 else 3) =
        if target.toNat / 256 = ref / 256 then 3 else 4 := by
      rw [pageCrossed_eq, href, branchTarget_eq]
      simp [target]
    have hcharged : 2 + (if pageCrossed (branchRef s.launch.branchPageRef s.pc) (branchTarget s.pc off) then 2 else 1) =
        if target.toNat / 256 = ref / 256 then 3 else 4 := by
      rw [← hcost]
      split <;> rfl
    rw [branch_taken, hcharged] at hexec
    have hcpu : CpuOnly [] s (retire (((advance 2 2 s).setCyclesRemaining
        (if target.toNat / 256 = ref / 256 then 3 else 4)).setPC (branchTarget s.pc off))) :=
      (((cpuOnly_advance [] 2 2 s).trans (cpuOnly_setCyclesRemaining [] _ _)).trans (cpuOnly_setPC [] _ _)).trans
        (cpuOnly_retire [] _)
    exact ⟨_, hexec, branchTarget_eq s.pc off, by simp, by simp, hcpu.keeps, flagsAre_of_eq (by simp), hcpu.keepsMemory, hcpu.ppu⟩

/-- Settles O49: eight branches, one rule. -/
theorem branchesMoveOnlyPcAndCost : Obligations.BranchesMoveOnlyPcAndCost := by
  intro p hp off s
  simp only [List.mem_cons, List.not_mem_nil, or_false] at hp
  obtain rfl | rfl | rfl | rfl | rfl | rfl | rfl | rfl := hp
  all_goals exact branch_runs rfl (by simp)

/-! ### Jumps, calls and returns (R229 to R231) -/

/-- A jump to the address its engine gives. -/
theorem jump_runs {o : Operand} {s : State} {ea : Addr} (hloc : (locate o s).loc = .mem ea) :
    Runs (.jmp o) s ea ((jumpCost o).charged (locate o s).crossed) fun t =>
      Keeps s t [] ∧ FlagsAre s.p t.p [] ∧ KeepsMemory s t ∧ t.ppu = (locate o s).state.ppu := by
  have hnext : exec (.jmp o) s = .next (retire ((advance (operandSize o) ((jumpCost o).charged (locate o s).crossed)
      (locate o s).state).setPC ea)) := by
    simp only [exec, execJmp, runOperand, hloc, jumpTo]
  have hcpu := fun n c => ((cpuOnly_advance [] n c (locate o s).state).trans (cpuOnly_setPC [] ea _)).trans
    (cpuOnly_retire [] _)
  refine ⟨_, hnext, rfl, by simp, by simp, Keeps.trans (keeps_locate o s) (hcpu _ _).keeps, flagsAre_of_eq (by simp), fun b => ?_,
    (hcpu _ _).ppu⟩
  exact ((hcpu _ _).keepsMemory b).trans (locate_byteAt s o b)

/-- JSR (R230): the pushed word is the address of the last byte of the instruction. -/
theorem jsr_runs (s : State) (w : Addr) :
    Runs (.jsr w) s w 6 fun t =>
      t.sp = s.sp - 2 ∧
      (s.ram.wf = true → t.byteAt (stackAddr s.sp) = some (hiByte (s.pc + 2)) ∧
        t.byteAt (stackAddr (s.sp - 1)) = some (loByte (s.pc + 2))) ∧
      (∀ b, ¬SameCell b (stackAddr s.sp) → ¬SameCell b (stackAddr (s.sp - 1)) → t.byteAt b = s.byteAt b) ∧
      Keeps s t [.sp] ∧ FlagsAre s.p t.p [] ∧ t.ppu = s.ppu := by
  have hlast : (advance 3 6 s).pc - 1 = s.pc + 2 := by
    rw [advance_pc]
    bv_omega
  have hnext : exec (.jsr w) s = .next (retire ((push16 ((advance 3 6 s).pc - 1) (advance 3 6 s)).setPC w)) := rfl
  rw [hlast] at hnext
  refine ⟨_, hnext, rfl, by simp, by simp, by simp, fun hwf => ?_, fun b hhi hlo => ?_, ?_,
    flagsAre_of_eq (by simp), by simp⟩
  · rw [retire_byteAt, State.setPC_byteAt, retire_byteAt, State.setPC_byteAt]
    exact ⟨push16_byteAt_hi (advance 3 6 s) _ hwf, push16_byteAt_lo (advance 3 6 s) _ hwf⟩
  · rw [retire_byteAt, State.setPC_byteAt]
    exact push16_byteAt_of_not_sameCell (advance 3 6 s) _ hhi hlo
  · exact Keeps.trans (cpuOnly_advance _ 3 6 s).keeps (Keeps.trans (keeps_push16 _ _)
      ((cpuOnly_setPC _ w _).trans (cpuOnly_retire _ _)).keeps)

/-- RTS (R231): the pulled word plus one. -/
theorem rts_runs (s : State) :
    Runs .rts s (word (stackByte s 2) (stackByte s 1) + 1) 6 fun t =>
      t.sp = s.sp + 2 ∧ Keeps s t [.sp] ∧ FlagsAre s.p t.p [] ∧ KeepsMemory s t ∧ t.ppu = s.ppu := by
  have hpop : pop16 (advance 1 6 s) = (word (stackByte s 2) (stackByte s 1), (advance 1 6 s).setSP (s.sp + 2)) :=
    pop16_of_byteAt (byteAt_stackAddr (advance 1 6 s) _) (byteAt_stackAddr (advance 1 6 s) _)
  have hcpu : CpuOnly [.sp] s (retire (((advance 1 6 s).setSP (s.sp + 2)).setPC
      (word (stackByte s 2) (stackByte s 1) + 1))) :=
    (((cpuOnly_advance _ 1 6 s).trans ((RegistersOnly.refl _ _).setSP (by decide) _).cpuOnly).trans
      (cpuOnly_setPC _ _ _)).trans (cpuOnly_retire _ _)
  have hnext : exec .rts s = .next (retire (subroutineReturn (advance 1 6 s))) := rfl
  rw [subroutineReturn, hpop] at hnext
  exact ⟨_, hnext, rfl, by simp, by simp, by simp, hcpu.keeps, flagsAre_of_eq (by simp), hcpu.keepsMemory, hcpu.ppu⟩

/-- Settles O50: JMP by its two engines, then JSR and RTS. -/
theorem jumpsCallsAndReturns : Obligations.JumpsCallsAndReturns := by
  intro s
  refine ⟨fun w => jump_runs rfl, fun w => ?_, jsr_runs s, rts_runs s⟩
  have hnext : BitVec.ofNat 16 (w.toNat / 256 * 256 + (w.toNat + 1) % 256) = nextInPage w := by
    rw [← nextInPage_toNat, BitVec.ofNat_toNat, BitVec.setWidth_eq]
  rw [hnext]
  exact jump_runs rfl

/-! ### BIT, flags, no-operations (R232 to R242, R274, R276 to R282) -/

/-- Settles O51. -/
theorem bitTestsMemoryAgainstA : Obligations.BitTestsMemoryAgainstA := by
  intro o s m
  refine readsOperand rfl (registersOnly_bitTest _) fun u hu => ?_
  rw [← hu.a, ← hu.p]
  exact flagsAre_bitTest m u

/-- Settles O52: each body writes one flag. -/
theorem flagInstructionsWriteOneFlag : Obligations.FlagInstructionsWriteOneFlag := by
  intro p hp s
  simp only [List.mem_cons, List.not_mem_nil, or_false] at hp
  obtain rfl | rfl | rfl | rfl | rfl | rfl | rfl := hp
  all_goals exact runsInside_implied rfl (registersOnly_setFlag _ _ _) fun hk => ⟨hk, flagsAre_putFlag _ _ s.p⟩

theorem idles_idle {i : Instr} {s : State} {c : Cost} {cycles : Nat} (o : Operand) (hexec : exec i s = idle c o s)
    (ho : o.mode ≠ .ind) (hcycles : c.charged (locate o s).crossed = cycles) : Idles i s (operandSize o) cycles := by
  have hnext : exec i s = runImplied (operandSize o) cycles id s := by
    rw [hexec, idle, runOperand, hcycles, locate_state_of_ne_ind ho]
    rfl
  exact idles_implied hnext

/-- Settles O53: no body does anything, and no engine but that of Indirect leaves a trace. -/
theorem noOperationsOnlyAdvance : Obligations.NoOperationsOnlyAdvance := by
  intro s
  refine ⟨idles_implied rfl, fun k => idles_implied rfl, idles_implied rfl, idles_implied rfl,
    fun k => idles_implied rfl, fun k => idles_implied rfl, fun k b => idles_idle (.zp b) rfl nofun rfl,
    fun k b => idles_idle (.zpx b) rfl nofun rfl, fun w => idles_idle (.abs w) rfl nofun rfl,
    fun k w => idles_idle (.abx w) rfl nofun ?_, fun w => ⟨idles_idle (.aby w) rfl nofun rfl,
    idles_idle (.abx w) rfl nofun rfl, idles_idle (.aby w) rfl nofun rfl⟩,
    fun w => idles_idle (.aby w) rfl nofun rfl, fun b => idles_idle (.izy b) rfl nofun rfl⟩
  simp only [locate, pageCrossed_eq, index_toNat, readCost, Cost.charged, Bool.true_and, decide_eq_true_eq, ne_eq]
  split <;> simp_all

/-! ### The undocumented opcodes (45_undocumented.md) -/

/-- The flags of a last part that sets Z and N after C was set. -/
theorem flagsAre_carry_loadA {s u : State} (hu : SameRegisters s u) (c : Bool) (v : Byte) :
    FlagsAre s.p (loadA v (u.setFlag .c c)).p ((.c, c) :: zn v) :=
  hu.p ▸ FlagsAre.after_putFlag (flagsAre_putZN v _) fun _ => rfl

/-- Settles O54: the shift in memory, then A combined with the new byte; RRA adds with the bit rotated out as carry. -/
theorem combinedShiftsWriteMemoryThenA : Obligations.CombinedShiftsWriteMemoryThenA := by
  constructor
  · intro p hp
    simp only [List.mem_cons, List.not_mem_nil, or_false] at hp
    obtain rfl | rfl | rfl := hp
    all_goals
      intro o s hwf
      refine runsOn_shifting rfl (locate_mem_of_wf rfl (by decide) hwf s) (fun _ u => registersOnly_loadA _ u)
        fun u t hu ht hkeeps hwrites => ?_
      rw [ht] at hkeeps hwrites ⊢
      exact ⟨hu.a ▸ rfl, flagsAre_carry_loadA hu _ _, hkeeps, hwrites⟩
  · intro o s hwf r c
    refine runsOn_shifting rfl (locate_mem_of_wf rfl (by decide) hwf s) registersOnly_doAdc
      fun u t hu ht hkeeps hwrites => ?_
    have hcarry : carry (u.setFlag .c (ror8 (operandOf o s) (s.flag .c)).2) = c := by
      have hout : (ror8 (operandOf o s) (s.flag .c)).2 = decide ((operandOf o s).toNat % 2 = 1) := getLsbD_zero_eq _
      rw [carry, State.setFlag_flag, if_pos rfl, hout]
      by_cases h : (operandOf o s).toNat % 2 = 1 <;> simp [h, c]
      omega
    rw [ht] at hkeeps hwrites ⊢
    have ha := doAdc_a_toNat r (u.setFlag .c (ror8 (operandOf o s) (s.flag .c)).2)
    have hflags := flagsAre_doAdc r (u.setFlag .c (ror8 (operandOf o s) (s.flag .c)).2)
    rw [hcarry, State.setFlag_a, hu.a] at ha hflags
    refine ⟨ha, ?_, hkeeps, hwrites⟩
    rw [State.setFlag_p, hu.p] at hflags
    exact FlagsAre.after_putFlag_of_listed hflags fun _ _ => rfl

/-- Settles O55: the byte stepped in memory, then compared with A or subtracted from it. -/
theorem dcpAndIscStepMemoryThenCompareOrSubtract : Obligations.DcpAndIscStepMemoryThenCompareOrSubtract := by
  intro o s
  refine ⟨fun hwf => ?dcp, fun hwf => ?isc⟩
  case dcp =>
    refine runsOn_stepping rfl (locate_mem_of_wf rfl (by decide) hwf s) (fun r u => registersOnly_doCmp u.a r u)
      fun u t hu ht hkeeps hwrites => ⟨hkeeps, ?_, hwrites⟩
    rw [ht, Compares, ← hu.a, ← hu.p]
    exact flagsAre_doCmp _ _ u
  case isc =>
    refine runsOn_stepping rfl (locate_mem_of_wf rfl (by decide) hwf s) (fun _ u => registersOnly_doAdc _ u)
      fun u t hu ht hkeeps hwrites => ⟨hkeeps, ?_, hwrites⟩
    rw [ht]
    exact subtracts_of_sameRegisters hu (subtracts_doSbc _ u)

/-- Settles O56: the bodies one by one. -/
theorem immediateCombinationsAndLas : Obligations.ImmediateCombinationsAndLas := by
  intro s v
  refine ⟨fun k => readsOperand rfl (registersOnly_ancBody _) fun u hu => ?anc,
    readsOperand rfl (registersOnly_alrBody _) fun u hu => ?alr,
    readsOperand rfl (registersOnly_arrBody _) fun u hu => ?arr,
    readsOperand rfl (registersOnly_axsBody _) fun u hu => ?axs,
    fun w => readsOperand rfl (registersOnly_lasBody _) fun u hu => ?las⟩
  case anc =>
    rw [← hu.a, ← hu.p]
    exact ⟨rfl, flagsAre_ancBody v u⟩
  case alr =>
    rw [← hu.a, ← hu.p]
    exact ⟨lsr8_toNat _, flagsAre_alrBody v u⟩
  case arr =>
    rw [← hu.a, ← hu.p, ← hu.carry]
    exact ⟨ror8_toNat _ _, flagsAre_arrBody v u⟩
  case axs =>
    rw [← hu.a, ← hu.x, ← hu.p]
    exact ⟨rfl, flagsAre_axsBody v u⟩
  case las =>
    rw [← hu.sp, ← hu.p]
    exact ⟨rfl, rfl, rfl, flagsAre_lasBody _ u⟩

end Sys2Proof.Claims
end

section
/-! SUPPORT. Which flags an instruction can write (10_state.md section 4; O22). -/

namespace Sys2Proof.Machine

open Sys2Proof.Claims

/-- The flags each instruction writes: the table of 10_state.md, read by instruction. -/
def writtenFlags : Instr → List Flag
  | .adc _ | .sbc _ | .sbcUndoc _ | .rra _ | .isc _ | .arr _ => [.c, .v, .z, .n]
  | .cmp _ | .cpx _ | .cpy _ | .dcp _ | .asl _ | .lsr _ | .rol _ | .ror _ | .slo _ | .rla _ | .sre _ => [.c, .z, .n]
  | .anc _ _ | .alr _ | .axs _ => [.c, .z, .n]
  | .bit _ => [.z, .n, .v]
  | .lda _ | .ldx _ | .ldy _ | .lax _ | .las _ | .and _ | .ora _ | .eor _ | .inc _ | .dec _ => [.z, .n]
  | .tax | .tay | .txa | .tya | .tsx | .inx | .dex | .iny | .dey | .pla => [.z, .n]
  | .clc | .sec => [.c]
  | .cli | .sei | .brk => [.i]
  | .cld | .sed => [.d]
  | .clv => [.v]
  | .plp | .rti => [.c, .z, .i, .d, .b, .u, .v, .n]
  | .sta _ | .stx _ | .sty _ | .sax _ | .txs | .pha | .php | .jmp _ | .jsr _ | .rts => []
  | .bcc _ | .bcs _ | .beq _ | .bne _ | .bmi _ | .bpl _ | .bvc _ | .bvs _ => []
  | .nop | .nopUndoc _ | .jam _ | .xaa | .lxa | .ahx _ | .shx _ | .shy _ | .tas _ => []

/-- No flag but these differs. -/
def FlagsOnly (l : List Flag) (s t : State) : Prop := ∀ f, f ∉ l → t.flag f = s.flag f

variable {s t : State} {l : List Flag}

theorem flagsOnly_of_flagsAre {listed : List (Flag × Bool)} (h : FlagsAre s.p t.p listed) :
    FlagsOnly (listed.map Prod.fst) s t := fun _ hf => FlagsAre.of_not_listed h hf

theorem FlagsOnly.mono {l' : List Flag} (h : FlagsOnly l s t) (hl : l ⊆ l') : FlagsOnly l' s t :=
  fun f hf => h f fun hmem => hf (hl hmem)

/-- What every instruction cycle answers has the flags its body leaves. -/
theorem flagsOnly_runImplied {n c : Nat} {body : State → State} (hbody : ∀ u, FlagsOnly l u (body u)) :
    ∀ t, runImplied n c body s = .next t → FlagsOnly l s t := by
  rintro _ ⟨⟩ f hf
  exact hbody (advance n c s) f hf

theorem flagsOnly_runOperand {c : Cost} {o : Operand} {body : Loc → State → State}
    (hbody : ∀ loc u, FlagsOnly l u (body loc u)) : ∀ t, runOperand c o body s = .next t → FlagsOnly l s t := by
  rintro _ ⟨⟩ f hf
  exact (hbody _ _ f hf).trans (locate_flag s o f)

theorem flagsOnly_idle {c : Cost} {o : Operand} : ∀ t, idle c o s = .next t → FlagsOnly [] s t :=
  flagsOnly_runOperand fun _ _ _ _ => rfl

theorem flagsOnly_branch {taken : Bool} {off : Byte} : ∀ t, branch taken off s = .next t → FlagsOnly [] s t := by
  rintro t ht f -
  cases taken with
  | false => exact flagsOnly_runImplied (l := []) (body := id) (fun _ _ _ => rfl) t ht f List.not_mem_nil
  | true =>
    rw [branch_taken] at ht
    rw [← Host.Outcome.next.inj ht]
    simp

theorem flagsOnly_read {c : Cost} {o : Operand} {use : Byte → State → State}
    (huse : ∀ m u, FlagsOnly l u (use m u)) : ∀ t, runOperand c o (withOperand use) s = .next t → FlagsOnly l s t :=
  flagsOnly_runOperand fun loc u f hf => (huse _ _ f hf).trans (readLoc_flag u loc f)

theorem flagsOnly_modify {c : Cost} {o : Operand} {f : Byte → State → Byte} {g : Byte → Byte → State → State}
    (hg : ∀ m r u, FlagsOnly l u (g m r u)) : ∀ t, runOperand c o (modifying f g) s = .next t → FlagsOnly l s t :=
  flagsOnly_runOperand fun loc u f hf =>
    (hg _ _ _ f hf).trans ((writeLoc_flag _ loc _ f).trans (readLoc_flag u loc f))

theorem flagsOnly_shift {c : Cost} {o : Operand} {sh : Byte → Bool → Byte × Bool} {andThen : Byte → State → State}
    (hthen : ∀ r u, FlagsOnly l u (andThen r u)) (hc : .c ∈ l) :
    ∀ t, runOperand c o (shifting sh andThen) s = .next t → FlagsOnly l s t := by
  refine flagsOnly_modify fun m r u f hf => (hthen _ _ f hf).trans ?_
  rw [State.setFlag_flag, if_neg (by rintro rfl; exact hf hc)]

theorem flagsOnly_shift_zn {c : Cost} {o : Operand} {sh : Byte → Bool → Byte × Bool} {andThen : Byte → State → State}
    (hthen : ∀ r u, FlagsOnly [.z, .n] u (andThen r u)) :
    ∀ t, runOperand c o (shifting sh andThen) s = .next t → FlagsOnly [.c, .z, .n] s t :=
  flagsOnly_shift (fun r u => (hthen r u).mono (by decide)) (by decide)

theorem flagsOnly_step {c : Cost} {o : Operand} {f : Byte → Byte} {andThen : Byte → State → State}
    (hthen : ∀ r u, FlagsOnly l u (andThen r u)) :
    ∀ t, runOperand c o (stepping f andThen) s = .next t → FlagsOnly l s t :=
  flagsOnly_modify fun _ r u => hthen r u

theorem flagsOnly_setFlag (f : Flag) (v : Bool) (u : State) : FlagsOnly [f] u (u.setFlag f v) :=
  flagsOnly_of_flagsAre (s := u) (t := u.setFlag f v) (flagsAre_putFlag f v u.p)

theorem flagsOnly_setZN (v : Byte) (u : State) : FlagsOnly [.z, .n] u (u.setZN v) :=
  flagsOnly_of_flagsAre (s := u) (t := u.setZN v) (flagsAre_putZN v u.p)

theorem flagsOnly_loadA (v : Byte) (u : State) : FlagsOnly [.z, .n] u (loadA v u) := flagsOnly_setZN v (u.setA v)

theorem flagsOnly_doAdc (m : Byte) (u : State) : FlagsOnly [.c, .v, .z, .n] u (doAdc m u) :=
  flagsOnly_of_flagsAre (flagsAre_doAdc m u)

theorem flagsOnly_doCmp (reg m : Byte) (u : State) : FlagsOnly [.c, .z, .n] u (doCmp reg m u) :=
  flagsOnly_of_flagsAre (flagsAre_doCmp reg m u)

theorem flagsOnly_brkEntry (u : State) : FlagsOnly [.i] u (brkEntry u) := flagsOnly_setFlag .i true u

/-- An instruction leaves every flag outside its list as it was. -/
theorem exec_flagsOnly (i : Instr) (s : State) : ∀ t, exec i s = .next t → FlagsOnly (writtenFlags i) s t := by
  cases i with
  | lda | and | ora | eor => exact flagsOnly_read fun _ u => flagsOnly_loadA _ u
  | ldx => exact flagsOnly_read fun m u => flagsOnly_of_flagsAre (flagsAre_loadX m u)
  | ldy => exact flagsOnly_read fun m u => flagsOnly_of_flagsAre (flagsAre_loadY m u)
  | lax => exact flagsOnly_read fun m u => flagsOnly_of_flagsAre (flagsAre_loadAX m u)
  | las => exact flagsOnly_read fun m u => flagsOnly_of_flagsAre (flagsAre_lasBody m u)
  | adc | sbc | sbcUndoc => exact flagsOnly_read fun _ u => flagsOnly_doAdc _ u
  | cmp | cpx | cpy => exact flagsOnly_read fun m u => flagsOnly_doCmp _ m u
  | bit => exact flagsOnly_read fun m u => flagsOnly_of_flagsAre (flagsAre_bitTest m u)
  | anc => exact flagsOnly_read fun m u => flagsOnly_of_flagsAre (flagsAre_ancBody m u)
  | alr => exact flagsOnly_read fun m u => flagsOnly_of_flagsAre (flagsAre_alrBody m u)
  | arr => exact flagsOnly_read fun m u => flagsOnly_of_flagsAre (flagsAre_arrBody m u)
  | axs => exact flagsOnly_read fun m u => flagsOnly_of_flagsAre (flagsAre_axsBody m u)
  | sta | stx | sty | sax => exact flagsOnly_runOperand fun loc u f _ => writeLoc_flag u loc _ f
  | asl | lsr | rol | ror => exact flagsOnly_shift_zn flagsOnly_setZN
  | slo | rla | sre => exact flagsOnly_shift_zn fun _ u => flagsOnly_loadA _ u
  | rra => exact flagsOnly_shift (l := [.c, .v, .z, .n]) flagsOnly_doAdc (by decide)
  | inc | dec => exact flagsOnly_step flagsOnly_setZN
  | dcp => exact flagsOnly_step fun r u => flagsOnly_doCmp _ r u
  | isc => exact flagsOnly_step fun _ u => flagsOnly_doAdc _ u
  | jmp => exact flagsOnly_runOperand fun loc _ _ _ => by cases loc <;> rfl
  | ahx | shx | shy | tas => exact flagsOnly_idle
  | nopUndoc f =>
    cases f with
    | imp | imm => exact flagsOnly_runImplied fun _ _ _ => rfl
    | zp | zpx | abs | abx => exact flagsOnly_idle
  | nop | xaa | lxa | jam | txs => exact flagsOnly_runImplied fun _ _ _ => rfl
  | tax | tsx | inx | dex => exact flagsOnly_runImplied fun u => flagsOnly_of_flagsAre (flagsAre_loadX _ u)
  | tay | iny | dey => exact flagsOnly_runImplied fun u => flagsOnly_of_flagsAre (flagsAre_loadY _ u)
  | txa | tya => exact flagsOnly_runImplied fun u => flagsOnly_loadA _ u
  | clc | sec | cli | sei | cld | sed | clv => exact flagsOnly_runImplied fun u => flagsOnly_setFlag _ _ u
  | bcc | bcs | beq | bne | bmi | bpl | bvc | bvs => exact flagsOnly_branch
  | pha | php => exact flagsOnly_runImplied fun u f _ => congrArg (getFlag f) (push8_p u _)
  | pla =>
    exact flagsOnly_runImplied fun u f hf => (flagsOnly_loadA _ _ f hf).trans (congrArg (getFlag f) (pop8_p u))
  | jsr target =>
    unfold exec execJsr
    exact flagsOnly_runImplied fun u f _ => congrArg (getFlag f) (push16_p u _)
  | rts => exact flagsOnly_runImplied fun u f _ => congrArg (getFlag f) (pop16_p u)
  | brk => exact flagsOnly_runImplied flagsOnly_brkEntry
  | plp | rti => exact fun _ _ f hf => absurd (by cases f <;> decide) hf

theorem mem_writtenFlags {i : Instr} {f : Flag} (ht : exec i s = .next t) (hf : t.flag f ≠ s.flag f) :
    f ∈ writtenFlags i := by
  by_contra hmem
  exact hf (exec_flagsOnly i s t ht f hmem)

/-! ### The table by flag -/

theorem writes_zn {i : Instr} (h : .z ∈ writtenFlags i ∨ .n ∈ writtenFlags i) :
    appliesSetZn i = true ∨ (∃ o, i = .bit o) ∨ i = .plp ∨ i = .rti := by
  cases i with
  | bit | plp | rti => simp
  | sta | stx | sty | sax | txs | pha | php | jmp | jsr | rts | brk | clc | sec | cli | sei | cld | sed | clv
  | bcc | bcs | beq | bne | bmi | bpl | bvc | bvs | nop | nopUndoc | jam | xaa | lxa | ahx | shx | shy | tas =>
    simp [writtenFlags] at h
  | _ => exact .inl rfl

theorem writes_bu {i : Instr} (h : .b ∈ writtenFlags i ∨ .u ∈ writtenFlags i) : i = .plp ∨ i = .rti := by
  cases i with
  | plp | rti => simp
  | _ => simp [writtenFlags] at h

theorem writes_i {i : Instr} (h : .i ∈ writtenFlags i) : i = .sei ∨ i = .cli ∨ i = .plp ∨ i = .rti ∨ i = .brk := by
  cases i with
  | sei | cli | plp | rti | brk => simp
  | _ => simp [writtenFlags] at h

theorem writes_d {i : Instr} (h : .d ∈ writtenFlags i) : i = .sed ∨ i = .cld ∨ i = .plp ∨ i = .rti := by
  cases i with
  | sed | cld | plp | rti => simp
  | _ => simp [writtenFlags] at h

theorem writes_v {i : Instr} (h : .v ∈ writtenFlags i) :
    i = .clv ∨ i = .plp ∨ i = .rti ∨ (∃ v, i = .arr v ∨ i = .sbcUndoc v) ∨
      ∃ o, i = .adc o ∨ i = .sbc o ∨ i = .bit o ∨ i = .rra o ∨ i = .isc o := by
  cases i with
  | clv | plp | rti | arr | sbcUndoc | adc | sbc | bit | rra | isc => simp
  | _ => simp [writtenFlags] at h

theorem writes_c {i : Instr} (h : .c ∈ writtenFlags i) :
    i = .clc ∨ i = .sec ∨ i = .plp ∨ i = .rti ∨
      (∃ v, i = .alr v ∨ i = .arr v ∨ i = .axs v ∨ i = .sbcUndoc v ∨ ∃ k, i = .anc k v) ∨
      ∃ o, i = .adc o ∨ i = .sbc o ∨ i = .cmp o ∨ i = .cpx o ∨ i = .cpy o ∨ i = .asl o ∨ i = .lsr o ∨
        i = .rol o ∨ i = .ror o ∨ i = .slo o ∨ i = .rla o ∨ i = .sre o ∨ i = .rra o ∨ i = .dcp o ∨ i = .isc o := by
  cases i with
  | clc | sec | plp | rti | alr | arr | axs | sbcUndoc | anc | adc | sbc | cmp | cpx | cpy | asl | lsr | rol | ror | slo
  | rla | sre | rra | dcp | isc => simp
  | _ => simp [writtenFlags] at h

/-- PLP and RTI load a P with B = 0 and U = 1 (R175, R241). -/
theorem pulls_clear_b_set_u {i : Instr} (hi : i = .plp ∨ i = .rti) (ht : exec i s = .next t) :
    t.flag .b = false ∧ t.flag .u = true := by
  have hpulled : ∃ v, t.p = pulledP v := by
    obtain rfl | rfl := hi
    · cases ht
      exact ⟨_, rfl⟩
    · cases ht
      exact ⟨_, congrArg State.p (interruptReturn_eq (advance 1 6 s))⟩
  obtain ⟨v, hp⟩ := hpulled
  rw [State.flag, State.flag, hp, getFlag_pulledP, getFlag_pulledP]
  exact ⟨rfl, rfl⟩

end Sys2Proof.Machine

namespace Sys2Proof.Claims

open Sys2Proof.Machine

/-- Settles O22: the flag table read by instruction, then by flag. -/
theorem onlyTheListedInstructionsWriteAFlag : Obligations.OnlyTheListedInstructionsWriteAFlag := by
  intro i s t ht
  exact ⟨fun h => writes_zn (.inl (mem_writtenFlags ht h)), fun h => writes_zn (.inr (mem_writtenFlags ht h)),
    fun h => writes_bu (.inl (mem_writtenFlags ht h)), fun h => writes_bu (.inr (mem_writtenFlags ht h)),
    fun hi => pulls_clear_b_set_u hi ht, fun h => writes_i (mem_writtenFlags ht h),
    fun h => writes_d (mem_writtenFlags ht h), fun h => writes_v (mem_writtenFlags ht h),
    fun h => writes_c (mem_writtenFlags ht h)⟩

end Sys2Proof.Claims
end
